-- ==== Sys2Proof/Word.lean ====
section
/-! DEFINITION. The word and index types of the GT16 model: bytes and registers as bit vectors, and the bounded numbers
of the part's lanes, job slots, roster records, cache frames, compare units, fill slots and stations. -/

namespace Sys2Proof

/-- One byte of a record, a sector or a raster line. -/
abbrev Byte := BitVec 8

/-- A lane, and the drive link port of the same number (00_scope 1.2). -/
abbrev LaneNo := Fin 16

/-- A job slot (R1). -/
abbrev SlotNo := Fin 8

/-- The index of a disc record (R27). -/
abbrev DiscNo := Fin 256

/-- A cache frame (R43). -/
abbrev FrameNo := Fin 4096

/-- A compare unit of the Verify Engine (R112). -/
abbrev UnitNo := Fin 4

/-- A station of the arm (00_scope 2.8): 0, 1 the input spindles, 2 output, 3 reject, 4 the printer tray, 5 + n the drive
tray of lane n. -/
abbrev StationNo := Fin 21

/-- A requester of arm tasks (R128): 0..15 the lanes, 16 the printer. -/
abbrev RequesterNo := Fin 17

end Sys2Proof
end

