-- ==== Sys2Proof/Syntax.lean ====
section
/-! DEFINITION. The commands of the GT16: one constructor of `Instr` per row of spec/opcode_table.json. A command is a
register write or read by the host, one step of sheet processing, a message of a drive, a sensor or pin event, the
completion of a host read, or a timer running out. What the part reads from outside at that step (bytes of host memory, a
sensor's level, an ADC sample) is an operand of the command. -/

namespace Sys2Proof

/-- What a read of host memory brought back: its bytes, or an error status (R3, R40, R53, R152, R163, R180, R182). -/
inductive HostRead where
  | data (bytes : List Byte)
  | error
  deriving DecidableEq, Repr

/-- The tray value of a TRAY_STATE message (R97). -/
inductive TrayValue where
  | opened
  | closed
  | jammed
  deriving DecidableEq, Repr

/-- The status of an RDATA message (R97). -/
inductive SectorStatus where
  | ok
  | recovered
  | unreadable
  deriving DecidableEq, Repr

/-- A message from a drive to the GT16 (R97), or one that is malformed (R98). -/
inductive DriveMsg where
  | media (mediaClass : BitVec 8) (blank : Bool) (capacity : BitVec 32) (rates : List (BitVec 16))
  | speedAck (rate : BitVec 16)
  | speedRefused (rate : BitVec 16)
  | openAck
  | credit (count : BitVec 8)
  | gap
  | closed
  | rdata (sector : BitVec 32) (status : SectorStatus) (bytes : List Byte)
  | trayState (tray : TrayValue) (present : Bool)
  | fault (code : BitVec 16)
  | malformed
  deriving DecidableEq, Repr

/-- The levels of the sensors the part reads at an event: the gripper's disc-present and thickness sensors (set: two
discs) and the ribbon-out input (00_scope 4, R130, R132, R158). -/
structure Sensors where
  discPresent : Bool
  thicknessTwo : Bool
  ribbonOut : Bool
  deriving DecidableEq, Repr

/-- One sampling of the two head sensors (R147): the 10-bit thermistor code and the 12-bit supply code. -/
structure Sample where
  thermistor : BitVec 10
  supply : BitVec 12
  deriving DecidableEq, Repr

/-- The commands of the part, in the order of spec/opcode_table.json. -/
inductive Instr where
  /-- PIN_RESET (R179): the gripper sensors' levels at the reset are read (R130). -/
  | pinReset (sense : Sensors)
  /-- RUN (R177): a CONTROL write with command RUN; `config` is the one read of the configuration block (R180). -/
  | run (causeEnables logEnables : BitVec 6) (config : HostRead)
  /-- STOP (R178): a CONTROL write with command STOP. -/
  | stop (causeEnables logEnables : BitVec 6)
  /-- SOFT_RESET (R179): a CONTROL write with command SOFT_RESET. -/
  | softReset (causeEnables logEnables : BitVec 6) (sense : Sensors)
  /-- ENABLES_WRITE (R177): a CONTROL write with command none. -/
  | enablesWrite (causeEnables logEnables : BitVec 6)
  /-- WINDOW_BASE_WRITE (R176). -/
  | windowBaseWrite (value : BitVec 64)
  /-- WINDOW_SIZE_WRITE (R176). -/
  | windowSizeWrite (value : BitVec 64)
  /-- SHEET_WRITE (R181). -/
  | sheetWrite (address : BitVec 64)
  /-- CAUSE_READ (R186). -/
  | causeRead
  /-- REGISTER_WRITE_IGNORED (R189): a write of `width` bytes at `offset` of the register space. -/
  | registerWriteIgnored (offset : BitVec 64) (width : Nat) (value : BitVec 64)
  /-- SHEET_READ (R182): `header` and `entries` are what reading the current sheet brings. -/
  | sheetRead (header entries : HostRead)
  /-- ADMIT_JOB (R7): `record` and `strip` are what reading the job record and the glyph strip brings. -/
  | admitJob (record strip : HostRead)
  /-- HOLD_JOB (R10). -/
  | holdJob
  /-- RESUME_JOB (R11). -/
  | resumeJob
  /-- ABORT_JOB (R22). -/
  | abortJob
  /-- CLEAR_JOB (R24). -/
  | clearJob
  /-- EXCHANGE_LABEL (R25). -/
  | exchangeLabel
  /-- RELEASE_DISCS (R38). -/
  | releaseDiscs
  /-- SET_LANE (R84). -/
  | setLane
  /-- TAKE_COUNTS (R82). -/
  | takeCounts
  /-- DIAGNOSE_LANE (R89). -/
  | diagnoseLane
  /-- REFILL (R126). -/
  | refill
  /-- EMPTIED (R126). -/
  | emptied
  /-- CLEAR_TRANSPORT (R141). -/
  | clearTransport
  /-- CLEAR_PRINTER (R160): the ribbon-out input is read. -/
  | clearPrinter (ribbonOut : Bool)
  /-- SET_PROFILE (R163): `record` is what reading the profile record brings. -/
  | setProfile (record : HostRead)
  /-- UNKNOWN_KIND (R183). -/
  | unknownKind
  /-- ROSTER_RECORD_READ (R40): the read of the next roster record of the start-up clean. -/
  | rosterRecordRead (record : HostRead)
  /-- STOP_ASSERTED (R140). -/
  | stopAsserted
  /-- STOP_CLEARED (R141). -/
  | stopCleared
  /-- LINK_FRAME_FAILED (R91). -/
  | linkFrameFailed (lane : LaneNo)
  /-- LINK_FRAME_GOOD (R91); `finished` says that the frame finished delivering the oldest outbound message. -/
  | linkFrameGood (lane : LaneNo) (finished : Bool)
  /-- LINK_DOWN (R92); `held` are the drive messages received whole and not yet delivered, in the order sent. -/
  | linkDown (lane : LaneNo) (held : List DriveMsg)
  /-- LINK_UP (R93). -/
  | linkUp (lane : LaneNo)
  /-- MEDIA (R67). -/
  | media (lane : LaneNo) (mediaClass : BitVec 8) (blank : Bool) (capacity : BitVec 32) (rates : List (BitVec 16))
  /-- SPEED_ACK (R77). -/
  | speedAck (lane : LaneNo) (rate : BitVec 16)
  /-- SPEED_REFUSED (R77). -/
  | speedRefused (lane : LaneNo) (rate : BitVec 16)
  /-- OPEN_ACK (R69). -/
  | openAck (lane : LaneNo)
  /-- CREDIT (R71). -/
  | credit (lane : LaneNo) (count : BitVec 8)
  /-- GAP (R72). -/
  | gap (lane : LaneNo)
  /-- CLOSED (R78). -/
  | closed (lane : LaneNo)
  /-- RDATA (R110). -/
  | rdata (lane : LaneNo) (sector : BitVec 32) (status : SectorStatus) (bytes : List Byte)
  /-- TRAY_STATE (R103). -/
  | trayState (lane : LaneNo) (tray : TrayValue) (present : Bool)
  /-- FAULT (R101). -/
  | fault (lane : LaneNo) (code : BitVec 16)
  /-- MALFORMED_MESSAGE (R98). -/
  | malformedMessage (lane : LaneNo)
  /-- MEDIA_TIMEOUT (R67). -/
  | mediaTimeout (lane : LaneNo)
  /-- SPEED_TIMEOUT (R68). -/
  | speedTimeout (lane : LaneNo)
  /-- OPEN_TIMEOUT (R69). -/
  | openTimeout (lane : LaneNo)
  /-- CREDIT_STARVATION (R71). -/
  | creditStarvation (lane : LaneNo)
  /-- CLOSED_TIMEOUT (R78). -/
  | closedTimeout (lane : LaneNo)
  /-- READ_BLOCK_TIMEOUT (R111). -/
  | readBlockTimeout (lane : LaneNo)
  /-- TRAY_TIMEOUT (R106). -/
  | trayTimeout (lane : LaneNo)
  /-- SECTOR_COPY (R70). -/
  | sectorCopy (lane : LaneNo)
  /-- DATA (R71). -/
  | data (lane : LaneNo)
  /-- FILL_READ_DONE (R52): the completion of read `read` of attempt `attempt` of the fill numbered `fill`. -/
  | fillReadDone (fill attempt read : Nat) (result : HostRead)
  /-- FILL_READ_TIMEOUT (R53). -/
  | fillReadTimeout (fill attempt read : Nat)
  /-- COMPARE_DONE (R116). -/
  | compareDone (unit : UnitNo)
  /-- DIAG_COMPARE_DONE (R117); `faulty` are the sectors at which a defect of the lane's copy path or of the unit makes
  the two differ (none in a sound part). -/
  | diagCompareDone (unit : UnitNo) (faulty : List Nat)
  /-- MOVE_STEP_DONE (R131). -/
  | moveStepDone (sense : Sensors)
  /-- CONTACT_TRIP (R132): the arm stands at `height`. -/
  | contactTrip (height : Nat) (sense : Sensors)
  /-- FLOOR_REACHED (R132). -/
  | floorReached (sense : Sensors)
  /-- SHAKE_DONE (R133): the thickness sensor reads one or `two` discs. -/
  | shakeDone (two : Bool)
  /-- MOVE_TIMEOUT (R138). -/
  | moveTimeout
  /-- LIFT_TOP_TRIP (R142). -/
  | liftTopTrip
  /-- SWING_HOME_TRIP (R142). -/
  | swingHomeTrip (sense : Sensors)
  /-- HOME_FAIL (R142). -/
  | homeFail
  /-- PRINTER_TRAY_HOME_TRIP (R148). -/
  | printerTrayHomeTrip
  /-- RETRACT_DONE (R151): the head sensors are sampled. -/
  | retractDone (sample : Sample)
  /-- LINE_ADVANCE_DONE (R148). -/
  | lineAdvanceDone
  /-- PRINTER_TRAY_TIMEOUT (R148). -/
  | printerTrayTimeout
  /-- LINE_DUE (R153). -/
  | lineDue
  /-- STRIKE_PHASE_END (R155): after the last phase the head sensors are sampled. -/
  | strikePhaseEnd (sample : Sample)
  /-- LINE_READ_DONE (R152): the completion of attempt `attempt` of the read of raster line `line` of print `print`. -/
  | lineReadDone (print line attempt : Nat) (result : HostRead)
  /-- LINE_READ_TIMEOUT (R152). -/
  | lineReadTimeout (print line attempt : Nat)
  /-- HOT_HOLD_SAMPLE (R156). -/
  | hotHoldSample (sample : Sample)
  /-- SUPPLY_WAIT_SAMPLE (R156). -/
  | supplyWaitSample (sample : Sample)
  /-- HEAD_HOT (R156). -/
  | headHot
  /-- SUPPLY_LOW (R156). -/
  | supplyLow
  /-- RIBBON_OUT (R159). -/
  | ribbonOut
  deriving DecidableEq, Repr

end Sys2Proof
end

