-- ==== Sys2Proof/Decode.lean ====
section
/-! DEFINITION. The decoder asked for: the part takes commands, not words, and no row of spec/opcode_table.json gives its command
bits (every row's "fields" is empty), so no word spells a command. A register write alone comes as a value, and its bits say which
command it is (11.1, 11.2). -/

namespace Sys2Proof

/-- The command that a word spells by the table's bits: none, since no row of the table has any (assumption log 1). -/
def decodeTableWord (_nbits _w : Nat) : Option Instr := none

/-- The cause enables and the log class enables of a CONTROL write: bits 13:8 and 21:16 (11.2). -/
def controlCauses (v : BitVec 64) : BitVec 6 := v.extractLsb' 8 6
def controlClasses (v : BitVec 64) : BitVec 6 := v.extractLsb' 16 6

/-- The command of a CONTROL write: bits 1:0, 0 none, 1 RUN, 2 STOP, 3 SOFT_RESET (11.1, 11.2). The configuration block that a RUN reads
and the sensors that a reset reads come from outside. -/
def decodeControl (v : BitVec 64) (config : HostRead) (sense : Sensors) : Instr :=
  match v.toNat % 4 with
  | 0 => .enablesWrite (controlCauses v) (controlClasses v)
  | 1 => .run (controlCauses v) (controlClasses v) config
  | 2 => .stop (controlCauses v) (controlClasses v)
  | _ => .softReset (controlCauses v) (controlClasses v) sense

/-- The command that a write of the register space is: by its offset and width (R189), and for CONTROL by its bits. -/
def decodeRegisterWrite (offset : BitVec 64) (width : Nat) (v : BitVec 64) (config : HostRead) (sense : Sensors) : Instr :=
  if width = 8 then
    match offset.toNat with
    | 0x08 => decodeControl v config sense
    | 0x10 => .windowBaseWrite v
    | 0x18 => .windowSizeWrite v
    | 0x20 => .sheetWrite v
    | _ => .registerWriteIgnored offset width v
  else .registerWriteIgnored offset width v

end Sys2Proof
end

