-- ==== Sys2Proof/Config.lean ====
section
/-! DEFINITION. What an implementation of the GT16 fixes and the manual does not give a value for: the codes that IDENT
reports (R187; assumption log 2), and the free values: what the part meets outside at a moment that no command of the table
carries. Each is an uninterpreted constant, so no statement can rest on its value; a free value is applied to a count of the
free values drawn so far (assumption log 53). -/

namespace Sys2Proof

/-- The vendor code of IDENT (R187, 11.2): the manual gives no value. -/
opaque Config.vendorCode : BitVec 16

/-- The part code of IDENT (R187, 11.2): the manual gives no value. -/
opaque Config.partCode : BitVec 16

/-- The revision of IDENT (R187, 11.2): the manual gives no value. -/
opaque Config.revision : BitVec 8

/-- The layout version of IDENT (R187, 11.2), which the configuration block must repeat (R180) and the window header
shows (R185): the manual gives no value. -/
opaque Config.layoutVersion : BitVec 8

/-! ### Free values (assumption log 53) -/

/-- The gripper's disc-present sensor, read at a change of the gripper within a step (R130). -/
opaque Config.discSensor : Nat → Bool

/-- The gripper's thickness sensor at such a reading (R130): set for two discs. -/
opaque Config.thicknessSensor : Nat → Bool

/-- The ribbon-out input, read when the disc is taken from the printer tray within a step (R158). -/
opaque Config.ribbonSensor : Nat → Bool

/-- The printer tray home sensor, as a home seek begins (R148). -/
opaque Config.homeSensor : Nat → Bool

/-- The line at which a tray stands that a fault stopped on its way between HOME and a line (R148, R159). -/
opaque Config.stoppedLine : Nat → Fin 1344

/-- A write of a sheet's state or results takes effect: one that returns an error is not retried (R182). -/
opaque Config.sheetWriteLands : Nat → Bool

/-- A leg of a motor's bridge has a switch wanted on by the step sequence, or, with a duty in percent, by the hold (R144): by the
motor (0 lift, 1 swing, 2 printer tray) and the leg. -/
opaque Config.legOn : Option Nat → Nat → Nat → Nat → Bool

/-- The switch so wanted is the high one. -/
opaque Config.legHigh : Option Nat → Nat → Nat → Nat → Bool

end Sys2Proof
end

