-- ==== Sys2Proof/Machine/State.lean ====
section
/-! DEFINITION. The state of the GT16 as plain data, block by block, with the value every item has after a pin reset, and
the reasons a step may stop. Each structure's docstring names the rule that gives its items. -/

namespace Sys2Proof.Machine

/-- Memory: address and byte pairs, addresses strictly rising, no entry equal to what an unlisted address reads as. -/
abbrev Memory := List Host.Cell

/-- A counter that software can take or see saturate (00_scope 2.4): its value and its saturated flag. -/
structure Counter where
  value : Nat
  saturated : Bool
  deriving DecidableEq, Repr

/-- A counter after a reset. -/
def Counter.zero : Counter := ⟨0, false⟩

/-! ### PORT (10_work_area_port) -/

/-- The part states (00_scope 2.7, R177, R178). -/
inductive PartState where
  | stopped
  | starting
  | running
  | faulted
  deriving DecidableEq, Repr

/-- A held sheet (R181, R182). `entries` is absent until the sheet is taken; it then holds the entries 0..count − 1 as
read, and `nextEntry` is the first entry that has not been run. -/
structure HeldSheet where
  address : BitVec 64
  entries : Option (List (List Byte))
  nextEntry : Nat
  deriving DecidableEq, Repr

/-- The state of the Work Area Port (R176, R177, R179, R181, R184, R185, R186). CAUSE and the enables are register bits,
in the orders of 11.1. `readData` is the model's own: the value the latest CAUSE_READ returned. -/
structure Port where
  windowBase : BitVec 64
  windowSize : BitVec 64
  part : PartState
  stopPending : Bool
  causeEnables : BitVec 6
  logEnables : BitVec 6
  cause : BitVec 6
  current : Option HeldSheet
  next : Option (BitVec 64)
  logCount : Counter
  updateCount : Counter
  timeBase : Nat
  readData : BitVec 64
  deriving DecidableEq, Repr

/-- PORT after a pin reset (R179). -/
def Port.reset : Port where
  windowBase := 0
  windowSize := 0
  part := .stopped
  stopPending := false
  causeEnables := 0
  logEnables := 0
  cause := 0
  current := none
  next := none
  logCount := Counter.zero
  updateCount := Counter.zero
  timeBase := 0
  readData := 0

/-! ### JC (01_jobs_and_copy_accounting) -/

/-- The job states (01 1.3). -/
inductive JobState where
  | free
  | running
  | draining
  | held
  | aborting
  | done
  | aborted
  deriving DecidableEq, Repr

/-- The hold reasons (R9). -/
inductive HoldReason where
  | host
  | serialRange
  | imageFetch
  | supplySuspect
  deriving DecidableEq, Repr

/-- The verify modes (06): `off` is NONE. -/
inductive VerifyMode where
  | off
  | readability
  | compare
  deriving DecidableEq, Repr

/-- The two input spindles (R4). -/
inductive Spindle where
  | a
  | b
  deriving DecidableEq, Repr

/-- The kind of a substitution entry with what it carries (R5): the bytes of a FIXED entry, the width of a SERIAL one. -/
inductive SubstKind where
  | fixed (bytes : List Byte)
  | serial (width : Nat)
  deriving DecidableEq, Repr

/-- An entry of a substitution list (R5). -/
structure Subst where
  sector : Nat
  offset : Nat
  length : Nat
  kind : SubstKind
  deriving DecidableEq, Repr

/-- The overlay of a printing job (R2, R6); its glyph strip lies in the glyph store. -/
structure Overlay where
  glyphWidth : Nat
  glyphHeight : Nat
  x : Nat
  y : Nat
  deriving DecidableEq, Repr

/-- The job record as the context keeps it (R2). The tolerate mask is the stored one, bits HARD, MISCOMPARE, SOFT (R7). -/
structure JobRecord where
  imageBase : Nat
  imageSectors : Nat
  mediaClass : Nat
  copies : Nat
  spindle : Spindle
  laneSet : BitVec 16
  speedCap : Nat
  priority : Nat
  verifyMode : VerifyMode
  tolerate : BitVec 3
  gapLimit : Nat
  maxGaps : Nat
  print : Bool
  serialStart : Nat
  substs : List Subst
  overlay : Option Overlay
  deriving DecidableEq, Repr

/-- The five stall flags (R21). -/
structure StallFlags where
  supplyEmpty : Bool
  rosterFull : Bool
  outputFull : Bool
  rejectFull : Bool
  noLane : Bool
  deriving DecidableEq, Repr

/-- No stall flag set. -/
def StallFlags.clear : StallFlags := ⟨false, false, false, false, false⟩

/-- A job context (R1). `raster` is the active raster: its address and line count, absent for a job that does not print.
`glyphs` is the slot's part of the on-chip glyph store. -/
structure Job where
  state : JobState
  hold : Option HoldReason
  record : Option JobRecord
  raster : Option (Nat × Nat)
  issued : Nat
  good : Nat
  rejected : Nat
  inFlight : Nat
  reserved : Nat
  nextSerial : Option Nat
  probeRun : Nat
  stall : StallFlags
  glyphs : List Byte
  deriving DecidableEq, Repr

/-- A job context after a reset (R1). -/
def Job.reset : Job where
  state := .free
  hold := none
  record := none
  raster := none
  issued := 0
  good := 0
  rejected := 0
  inFlight := 0
  reserved := 0
  nextSerial := none
  probeRun := 0
  stall := StallFlags.clear
  glyphs := []

/-! ### RS (02_the_disc_roster) -/

/-- The outcomes of an allocated record (R29). An index whose record is FREE is absent from the map. -/
inductive DiscOutcome where
  | reserved
  | pending
  | passed
  | good
  | rejected
  deriving DecidableEq, Repr

/-- The locations of a disc (R30). `other` is a code that 11.1 does not list, kept as found by the start-up clean (R42). -/
inductive Location where
  | nowhere
  | arm
  | printer
  | output
  | reject
  | lane (n : LaneNo)
  | other (code : Byte)
  deriving DecidableEq, Repr

/-- The reject reasons (R31), in the order of their codes (11.1). `other` is a code kept as found by the clean (R42). -/
inductive RejectReason where
  | wrongMedia
  | notBlank
  | tooSmall
  | noSpeed
  | writeFault
  | writeStall
  | gapLimit
  | driveFault
  | laneDisabled
  | verifyHard
  | verifyMiscompare
  | verifySoft
  | verifyReference
  | imageFetch
  | doubleFeed
  | transportFault
  | labelIncomplete
  | aborted
  | reset
  | other (code : Byte)
  deriving DecidableEq, Repr

/-- The write totals of a record (R28, R35). -/
structure WriteTotals where
  finalRate : Nat
  gaps : Nat
  downshifts : Nat
  upshifts : Nat
  deriving DecidableEq, Repr

/-- The verify counts of a record (R28, R35). -/
structure VerifyCounts where
  hard : Nat
  miscompare : Nat
  soft : Nat
  deriving DecidableEq, Repr

/-- The working copy of an allocated disc record (R28). The slot and the lane are bytes, since the start-up clean keeps
records whose other fields it does not examine (R42). -/
structure DiscRecord where
  outcome : DiscOutcome
  location : Location
  slot : Byte
  laneUsed : Byte
  doubleFeed : Bool
  printed : Bool
  serial : Option Nat
  reason : Option RejectReason
  startRate : Option Nat
  totals : Option WriteTotals
  verify : Option VerifyCounts
  raster : Option Nat
  pickedAt : Option Nat
  writeStart : Option Nat
  writeEnd : Option Nat
  verifyEnd : Option Nat
  printedAt : Option Nat
  droppedAt : Option Nat
  deriving DecidableEq, Repr

/-- The state of RS (R27, R40): the allocation map with its working copies (absent: FREE), and, during the start-up
clean, the index of the next record to be read. -/
structure Roster where
  map : Vector (Option DiscRecord) 256
  clean : Option Nat
  deriving DecidableEq, Repr

/-- RS after a reset (R27). -/
def Roster.reset : Roster := ⟨Vector.replicate 256 none, none⟩

/-! ### CACHE and FE (03_image_cache_and_fetch_engine) -/

/-- The frame states (R44). -/
inductive FrameState where
  | free
  | filling
  | resident
  | failed
  deriving DecidableEq, Repr

/-- A frame record (R43). The tag is the job slot and the page. -/
structure Frame where
  state : FrameState
  slot : SlotNo
  page : Nat
  pinCount : Nat
  lastUse : Nat
  attempts : Nat
  released : Bool
  deriving DecidableEq, Repr

/-- A frame record after a reset (R43). -/
def Frame.reset : Frame := ⟨.free, 0, 0, 0, 0, 0, false⟩

/-- A request of the fetch queue (R56). -/
structure FetchReq where
  slot : SlotNo
  page : Nat
  lanes : List LaneNo
  arrival : Nat
  deriving DecidableEq, Repr

/-- One host read of the current attempt of a fill (R51, R53): whether it has completed good, and when it was issued. -/
structure FillRead where
  done : Bool
  issuedAt : Nat
  deriving DecidableEq, Repr

/-- A fill in flight (R50, R51): its number (the model's tag of its reads), its frame, the host address of its page, the
image sectors in the page, and the reads of the current attempt. The attempt's number is the frame's attempt count. -/
structure Fill where
  number : Nat
  frame : FrameNo
  base : Nat
  sectors : Nat
  reads : List FillRead
  deriving DecidableEq, Repr

/-- The state of FE (R56, R58): the fetch queue, the count that arrival positions are drawn from, and the eight fill slots.
`nextFill` numbers the fills, so that a completion of an ended fill is told from a live one; it is the model's own. -/
structure Fetch where
  queue : List FetchReq
  arrivals : Nat
  fills : Vector (Option Fill) 8
  nextFill : Nat
  deriving DecidableEq, Repr

/-- FE after a pin reset (R61). -/
def Fetch.reset : Fetch := ⟨[], 0, Vector.replicate 8 none, 0⟩

/-! ### LANE (04_write_lanes) and its verify state (06_verification) -/

/-- The thirteen lane states (R63), in the order of their codes. -/
inductive LaneState where
  | unknown
  | offline
  | idle
  | loadWait
  | trayLoad
  | probing
  | negotiating
  | writing
  | closing
  | verifying
  | unloadWait
  | trayUnload
  | faulted
  deriving DecidableEq, Repr

/-- A roster record a lane or the printer serves, with its job slot (R62, R147). -/
structure DiscRef where
  index : DiscNo
  slot : SlotNo
  deriving DecidableEq, Repr

/-- The refuse marks (R62, R65). -/
inductive RefuseMark where
  | laneDisabled
  | driveFault
  deriving DecidableEq, Repr

/-- What an outstanding SET_SPEED is for (R68, R75, R76). -/
inductive SpeedPurpose where
  | negotiate
  | downshift
  | upshift
  deriving DecidableEq, Repr

/-- An outstanding speed request (R62): the rate asked for, what for, and when it was sent (R102). -/
structure SpeedReq where
  rate : Nat
  purpose : SpeedPurpose
  sentAt : Nat
  deriving DecidableEq, Repr

/-- A sector in a lane's FIFO (R62, R70, R110): its number and its 2,048 bytes. -/
structure FifoSector where
  sector : Nat
  bytes : List Byte
  deriving DecidableEq, Repr

/-- The tray commands (R96). -/
inductive TrayCmd where
  | opened
  | close
  | query
  deriving DecidableEq, Repr

/-- What an outstanding tray command is for (R103 to R105). `withdrawOpen`: the OPEN of a load that was withdrawn before
its answer, which the lane follows with a CLOSE; the flag says that the lane enters FAULTED at the end (R139). `stale`: a
command left from before RUN, whose answer changes nothing; the flag says that the start-up inventory waits for it. -/
inductive TrayPurpose where
  | loadOpen
  | loadClose
  | withdrawOpen (thenFaulted : Bool)
  | withdrawClose (thenFaulted : Bool)
  | unloadOpen
  | unloadClose
  | recovery
  | inventory
  | stale (thenInventory : Bool)
  deriving DecidableEq, Repr

/-- An outstanding tray command (R102): the command, what it is for, and when it was sent. -/
structure TrayWait where
  command : TrayCmd
  purpose : TrayPurpose
  sentAt : Nat
  deriving DecidableEq, Repr

/-- The waits and timers of a lane (R102), each the time base at its start, absent when it does not run. The speed wait
stands in the speed request. -/
structure Waits where
  media : Option Nat
  openAck : Option Nat
  starvation : Option Nat
  closed : Option Nat
  readBlock : Option Nat
  tray : Option TrayWait
  deriving DecidableEq, Repr

/-- No wait open and no timer running. -/
def Waits.none : Waits := ⟨.none, .none, .none, .none, .none, .none⟩

/-- The kinds of pin (03 3.2). -/
inductive PinKind where
  | write
  | compare
  | diagnostic
  deriving DecidableEq, Repr

/-- A pin a lane holds (R45 to R47): its kind, its page, and the frame it stands on; absent while it stands in a waiting
request, or when its frame went FREE under it (R59). -/
structure LanePin where
  kind : PinKind
  slot : SlotNo
  page : Nat
  frame : Option FrameNo
  deriving DecidableEq, Repr

/-- The pace state (R74). -/
structure Pace where
  history : BitVec 8
  reviews : Nat
  windowGaps : Nat
  toward : Nat
  deriving DecidableEq, Repr

/-- The disc totals (R62). -/
structure DiscTotals where
  gaps : Nat
  downshifts : Nat
  upshifts : Nat
  deriving DecidableEq, Repr

/-- The six lane counters (R81). -/
structure LaneCounters where
  sectorsWritten : Counter
  gaps : Counter
  downshifts : Counter
  upshifts : Counter
  discsGood : Counter
  discsRejected : Counter
  deriving DecidableEq, Repr

/-- The lane counters at zero with their flags clear. -/
def LaneCounters.zero : LaneCounters :=
  ⟨Counter.zero, Counter.zero, Counter.zero, Counter.zero, Counter.zero, Counter.zero⟩

/-- The compare stages (R108). -/
inductive CompareStage where
  | off
  | queued
  | granted
  deriving DecidableEq, Repr

/-- The verify state of a lane (R108). -/
structure VerifyState where
  blockStart : Nat
  blockCount : Nat
  received : List Nat
  hard : Nat
  miscompare : Nat
  soft : Nat
  stage : CompareStage
  unit : Option UnitNo
  deriving DecidableEq, Repr

/-- The verify state after a reset and at the entry to VERIFYING (R108). -/
def VerifyState.reset : VerifyState := ⟨0, 0, [], 0, 0, 0, .off, none⟩

/-- A running diagnosis (R89, R90): its job slot, the page in hand, the last page, its serial, the block in hand, and its
tallies so far. -/
structure Diagnosis where
  slot : SlotNo
  page : Nat
  lastPage : Nat
  serial : Option Nat
  blockStart : Nat
  blockCount : Nat
  pagesDone : Nat
  sectorsCompared : Nat
  mismatches : Nat
  firstMismatch : Option Nat
  deriving DecidableEq, Repr

/-- How a diagnosis ended (R90). -/
inductive DiagEnd where
  | pass
  | mismatch
  | reference
  deriving DecidableEq, Repr

/-- The result of the latest diagnosis (R90). -/
structure DiagResult where
  outcome : DiagEnd
  slot : SlotNo
  pagesDone : Nat
  sectorsCompared : Nat
  mismatches : Nat
  firstMismatch : Option Nat
  deriving DecidableEq, Repr

/-- A lane context (R62, R108, R102). Four items are the model's own, each what a rule needs the lane to remember:
`inTray`, a disc stands in the lane's tray as the arm's reports and the tray answers gave; `orphan`, the disc in the tray has
no record (R87); `restPending`, the lane has reached the point of entering its rest state and waits for a discarded compare (R121);
`uncounted`, the disc placed in the tray that a FAULT has rejected in TRAY_LOAD and that counts in discs rejected at the CLOSED answer
(R101). -/
structure Lane where
  state : LaneState
  enabled : Bool
  cap : Nat
  disc : Option DiscRef
  inTray : Bool
  orphan : Bool
  refuse : Option RefuseMark
  offered : List Nat
  ceiling : Option Nat
  rate : Option Nat
  speedReq : Option SpeedReq
  fifo : List FifoSector
  nextCopy : Nat
  nextSend : Nat
  credits : Nat
  pace : Pace
  totals : DiscTotals
  counters : LaneCounters
  faultRun : Nat
  stray : Nat
  trail : List (LaneState × Nat)
  diag : Option Diagnosis
  diagResult : Option DiagResult
  verify : VerifyState
  waits : Waits
  pins : List LanePin
  restPending : Bool
  uncounted : Option DiscNo
  deriving DecidableEq, Repr

/-- A lane after a reset (R62, R108). R62's reset list does not name the offered rates: the empty list is the model's (DESIGN CHOICE,
assumption log 50). -/
def Lane.reset : Lane where
  state := .unknown
  enabled := false
  cap := 0
  disc := none
  inTray := false
  orphan := false
  refuse := none
  offered := []
  ceiling := none
  rate := none
  speedReq := none
  fifo := []
  nextCopy := 0
  nextSend := 0
  credits := 0
  pace := ⟨0, 0, 0, 0⟩
  totals := ⟨0, 0, 0⟩
  counters := LaneCounters.zero
  faultRun := 0
  stray := 0
  trail := [(.unknown, 0)]
  diag := none
  diagResult := none
  verify := VerifyState.reset
  waits := Waits.none
  pins := []
  restPending := false
  uncounted := none

/-! ### DL (05_the_drive_link) -/

/-- A message from a lane to its drive (R96). -/
inductive LaneMsg where
  | probe
  | setSpeed (rate : Nat)
  | writeOpen (sectors : Nat)
  | data (sector : Nat) (bytes : List Byte)
  | close
  | read (start count : Nat)
  | tray (command : TrayCmd)
  | abort
  deriving DecidableEq, Repr

/-- A drive link port (R91, R95): its link state, the consecutive failed frames, and the lane's messages it has not
finished delivering, oldest first. -/
structure Link where
  up : Bool
  fails : Nat
  outbound : List LaneMsg
  deriving DecidableEq, Repr

/-- A port after a reset (R91). -/
def Link.reset : Link := ⟨false, 0, []⟩

/-! ### VE (06_verification) -/

/-- The compare unit states (R112). -/
inductive UnitState where
  | free
  | referenceWait
  | comparing
  deriving DecidableEq, Repr

/-- The owners of a compare (R112). -/
inductive CompareKind where
  | disc
  | diagnosis
  deriving DecidableEq, Repr

/-- A compare unit (R112). The diagnosis tally is the number of differing sectors and the first of them. -/
structure CompareUnit where
  state : UnitState
  owner : Option LaneNo
  kind : CompareKind
  blockStart : Nat
  blockCount : Nat
  slot : SlotNo
  serial : Option Nat
  position : Nat
  discard : Bool
  tally : Nat
  firstDiff : Option Nat
  deriving DecidableEq, Repr

/-- A compare unit after a reset (R112). -/
def CompareUnit.reset : CompareUnit := ⟨.free, none, .disc, 0, 0, 0, none, 0, false, 0, none⟩

/-- A request of the compare request queue (R112). -/
structure CompareReq where
  lane : LaneNo
  kind : CompareKind
  blockStart : Nat
  blockCount : Nat
  slot : SlotNo
  serial : Option Nat
  arrival : Nat
  deriving DecidableEq, Repr

/-- The state of VE (R112). -/
structure VerifyEngine where
  units : Vector CompareUnit 4
  queue : List CompareReq
  arrivals : Nat
  deriving DecidableEq, Repr

/-- VE after a reset (R112). -/
def VerifyEngine.reset : VerifyEngine := ⟨Vector.replicate 4 CompareUnit.reset, [], 0⟩

/-! ### TR (07_disc_transport) -/

/-- The occupancies of a station (R124). -/
inductive Occupancy where
  | empty
  | occupied
  | unknown
  deriving DecidableEq, Repr

/-- An entry of the station table (R123). -/
structure Station where
  swing : Nat
  lift : Nat
  capacity : Nat
  deriving DecidableEq, Repr

/-- An entry of the station map (R124). -/
structure StationEntry where
  occupancy : Occupancy
  disc : Option DiscNo
  claim : Bool
  count : Nat
  empty : Bool
  full : Bool
  deriving DecidableEq, Repr

/-- A station map entry after a reset and an accepted RUN (R124). -/
def StationEntry.reset : StationEntry := ⟨.unknown, none, false, 0, false, false⟩

/-- The kinds of task (R128). `sweepGripper` and `sweepPrinter` are steps 1 and 2 of the orphan sweep (R146), which the arm
carries out as tasks of its own. -/
inductive TaskKind where
  | load
  | unloadLane
  | unloadPrinter
  | sweepGripper
  | sweepPrinter
  deriving DecidableEq, Repr

/-- A queued task (R128); its source and destination are stations. -/
structure Task where
  kind : TaskKind
  requester : RequesterNo
  source : StationNo
  dest : StationNo
  position : Nat
  faults : Nat
  deriving DecidableEq, Repr

/-- What the gripper holds for the current task: a disc or a double-fed pair by its record, or an orphan with the station it
came from (absent: the gripper itself) (R133, R146). -/
inductive Cargo where
  | disc (index : DiscNo)
  | pair (index : DiscNo)
  | orphan (source : Option StationNo)
  deriving DecidableEq, Repr

/-- Where the arm stands in its current task (R131 to R136). The flag tells the way to the destination, with the disc, from
the way to the source. -/
inductive ArmPhase where
  | lift (toDest : Bool)
  | swing (toDest : Bool)
  | waitTray (toDest : Bool)
  | descend (toDest : Bool)
  | search (toDest : Bool)
  | shake (n : Nat)
  | rise (toDest : Bool)
  | waitFull
  deriving DecidableEq, Repr

/-- The arm's current task (R128 to R137). `cargo` is the disc the gripper holds once its grip is reported; `unreported`, a
grip at a spindle made and not yet reported (R133, R143); `redirect`, the disc was decided REJECTED and the load is given up at
the end of the move in progress, or at the restart of a task that was cut (R66, R137, R138); `finished`, nothing is left but the way
back to height 0 and the close; `tellClose`, the lane or the printer is still to be told to close (R134, R135). -/
structure ArmTask where
  task : Task
  cargo : Option Cargo
  phase : ArmPhase
  unreported : Bool
  redirect : Bool
  finished : Bool
  tellClose : Bool
  deriving DecidableEq, Repr

/-- The arm states (R130). -/
inductive ArmState where
  | unhomed
  | homing
  | idle
  | moving
  | stopped
  | faulted
  deriving DecidableEq, Repr

/-- The causes of an arm fault (R138, R142). -/
inductive ArmCause where
  | moveTimeout
  | gripMiss
  | releaseFail
  | trayOccupied
  | homeFail
  deriving DecidableEq, Repr

/-- The two steps of homing (R142). -/
inductive HomingStep where
  | lift
  | swing
  deriving DecidableEq, Repr

/-- The orphan sweep of STARTING (R146): whether steps 1 and 2 have ended. -/
structure Sweep where
  gripperDone : Bool
  printerDone : Bool
  deriving DecidableEq, Repr

/-- The state of the Disc Transport (R123, R124, R128, R130, R142, R144, R146). `timer` is the start of the running move
timer (R131), of a shake or of a homing step. `shownLift` and `shownSwing` are the positions as of the last move's end, which
the transport status shows (R130). `homeDue`, in STARTING: the roster clean is done and the arm homes as soon as the
STOP input is negated (R145). -/
structure Transport where
  stations : Vector Station 21
  deadTime : Nat
  holdDuty : Nat
  map : Vector StationEntry 21
  arm : ArmState
  posValid : Bool
  liftPos : Nat
  swingPos : Nat
  shownLift : Nat
  shownSwing : Nat
  gripperClosed : Bool
  discPresent : Bool
  thicknessTwo : Bool
  current : Option ArmTask
  queue : Vector (Option Task) 17
  positions : Nat
  lastCause : Option ArmCause
  homing : Option HomingStep
  timer : Option Nat
  homeDue : Bool
  sweep : Option Sweep
  deriving DecidableEq, Repr

/-- TR after a pin reset (R123, R124, R128, R130, R144). -/
def Transport.reset : Transport where
  stations := Vector.replicate 21 ⟨0, 0, 0⟩
  deadTime := 0
  holdDuty := 0
  map := Vector.replicate 21 StationEntry.reset
  arm := .unhomed
  posValid := false
  liftPos := 0
  swingPos := 0
  shownLift := 0
  shownSwing := 0
  gripperClosed := true
  discPresent := false
  thicknessTwo := false
  current := none
  queue := Vector.replicate 17 none
  positions := 0
  lastCause := none
  homing := none
  timer := none
  homeDue := false
  sweep := none

/-- A bridge leg (R144): its two gate outputs, high and low, and for how many units of 62.5 ns each switch has been off, holding at
128, the greatest dead time. -/
structure Leg where
  high : Bool
  low : Bool
  highOff : Nat
  lowOff : Nat
  deriving DecidableEq, Repr

/-- A leg after a reset: every switch off (R130, R144), the off times counted from there (assumption log 50). -/
def Leg.reset : Leg := ⟨false, false, 0, 0⟩

/-- A motor's bridge (R144): two legs for each of its two windings. -/
abbrev Bridge := Vector Leg 4

/-! ### LP (08_label_printer) -/

/-- The printer states (R147). -/
inductive PrinterState where
  | empty
  | loaded
  | printing
  | hotHold
  | supplyWait
  | finished
  | faulted
  deriving DecidableEq, Repr

/-- The causes of a printer fault (R159). -/
inductive PrinterCause where
  | ribbonOut
  | sensor
  | headHot
  | supplyLow
  | trayTimeout
  deriving DecidableEq, Repr

/-- The disc the printer holds (R147). -/
inductive PrinterDisc where
  | disc (ref : DiscRef)
  | orphan
  deriving DecidableEq, Repr

/-- The printer tray positions (R148). -/
inductive TrayPos where
  | lost
  | home
  | line (n : Nat)
  deriving DecidableEq, Repr

/-- The moves of the printer tray (R148). -/
inductive TrayMove where
  | homeSeek
  | retract
  | advance
  deriving DecidableEq, Repr

/-- A slot of the line buffer (R152): empty, being read (its line, its attempt 1..3, when the read was issued), or ready. -/
inductive LineSlot where
  | empty
  | reading (line attempt issuedAt : Nat)
  | ready (line : Nat) (bytes : List Byte)
  deriving DecidableEq, Repr

/-- Where the printer stands with the next line (R153, R155): none, its due time not yet taken, due and waiting for its slot,
its advance or the end of a hold, or being struck: phase 1..3, the phase's start, the line's first phase's start. -/
inductive LinePhase where
  | off
  | waitDue (due : Nat)
  | waiting
  | striking (phase phaseStart lineStart : Nat)
  deriving DecidableEq, Repr

/-- A strike's pulse, phase lengths and period (R171 to R173), with the dots that fire (R154). -/
structure Strike where
  pulse : Nat
  t1 : Nat
  t2 : Nat
  period : Nat
  stretched : Bool
  dots : List Bool
  deriving DecidableEq, Repr

/-- The print profile (R162). -/
structure Profile where
  table : List Int
  tmax : Int
  kt : Int
  p0 : Nat
  vref : Nat
  vmin : Nat
  pmin : Nat
  pmax : Nat
  h1 : Nat
  h2 : Nat
  period : Nat
  deriving DecidableEq, Repr

/-- The profile after a reset: zeros (R147). -/
def Profile.zero : Profile := ⟨List.replicate 17 0, 0, 0, 0, 0, 0, 0, 0, 0, 0, 0⟩

/-- An entry of the raster use table (R164). -/
structure RasterUse where
  address : Nat
  count : Nat
  retiring : Bool
  deriving DecidableEq, Repr

/-- The printer context (R147 to R164). `head` is the dots heated in the phase in progress, absent when no strobe is held.
`ribbonPending` and `readFailed` are a ribbon-out and a line's third failed read taken during a strike, acted on at its end
(R155, R152). `print` numbers the prints, so that a completion of an ended print is told from a live one; it is the model's own. -/
structure Printer where
  state : PrinterState
  halt : Bool
  cause : Option PrinterCause
  disc : Option PrinterDisc
  complete : Bool
  tray : TrayPos
  present : Bool
  bound : Option (Nat × Nat)
  buffer : Vector LineSlot 4
  nextRead : Nat
  nextLine : Nat
  newer : List Bool
  older : List Bool
  sample : Sample
  linesStruck : Nat
  starved : Nat
  stretched : Nat
  lastPulse : Nat
  lastPeriod : Nat
  profile : Profile
  uses : List RasterUse
  move : Option TrayMove
  moveStart : Nat
  line : LinePhase
  strike : Option Strike
  head : Option (List Bool)
  holdStart : Nat
  sampledAt : Nat
  ribbonPending : Bool
  readFailed : Bool
  print : Nat
  deriving DecidableEq, Repr

/-- The printer context after a pin reset (R147). -/
def Printer.reset : Printer where
  state := .empty
  halt := false
  cause := none
  disc := none
  complete := false
  tray := .lost
  present := false
  bound := none
  buffer := Vector.replicate 4 .empty
  nextRead := 0
  nextLine := 0
  newer := List.replicate 1344 false
  older := List.replicate 1344 false
  sample := ⟨0, 0⟩
  linesStruck := 0
  starved := 0
  stretched := 0
  lastPulse := 0
  lastPeriod := 0
  profile := Profile.zero
  uses := []
  move := none
  moveStart := 0
  line := .off
  strike := none
  head := none
  holdStart := 0
  sampledAt := 0
  ribbonPending := false
  readFailed := false
  print := 0

/-! ### The whole part -/

/-- The input levels the part keeps as it last took them: the STOP input and the ribbon-out input (00_scope 4). -/
structure Pins where
  stop : Bool
  ribbonOut : Bool
  deriving DecidableEq, Repr

/-- A report or request from one block to another that a step has still to take: a dispatch pass (R19), the stall flags (R21), the arm's
selection (R129), the test for STOPPED (R178), the sweep's progress (R146), a grant (R113), the printer's answer to a present request or
its loss (R149, R165), a disc on the arm decided REJECTED (R137), and a step of the arm that finds its axis at its target (R131). -/
inductive Signal where
  | dispatch
  | stalls
  | select
  | stopTest
  | sweepTest
  | grant
  | presented
  | presentLost
  | armRejected
  | stepTest
  deriving DecidableEq, Repr

/-- The state of the GT16. `dram` is the local DRAM of the cache frames; `host` the bytes the part has written to host
memory, by host address; `bridges` the bridges of the lift, the swing and the printer tray motor (R144). `signals` (empty between
steps), `pending`, the commands waiting, first in first out, and `draws`, the count of the free values drawn (assumption log 53),
are the model's own. -/
structure State where
  port : Port
  jobs : Vector Job 8
  roster : Roster
  frames : Vector Frame 4096
  fetch : Fetch
  dram : Memory
  lanes : Vector Lane 16
  links : Vector Link 16
  verify : VerifyEngine
  transport : Transport
  bridges : Vector Bridge 3
  printer : Printer
  pins : Pins
  host : Memory
  signals : List Signal
  draws : Nat
  pending : List Instr
  deriving DecidableEq, Repr

/-- The part right after a pin reset (R179 and the reset clauses of every chapter). -/
def State.reset : State where
  port := Port.reset
  jobs := Vector.replicate 8 Job.reset
  roster := Roster.reset
  frames := Vector.replicate 4096 Frame.reset
  fetch := Fetch.reset
  dram := []
  lanes := Vector.replicate 16 Lane.reset
  links := Vector.replicate 16 Link.reset
  verify := VerifyEngine.reset
  transport := Transport.reset
  bridges := Vector.replicate 3 (Vector.replicate 4 Leg.reset)
  printer := Printer.reset
  pins := ⟨false, false⟩
  host := []
  signals := []
  draws := 0
  pending := []

/-- The reasons a step may fault. No command of the GT16 ends in one: what the manual calls a fault is a state of a block
(the part, a lane, the arm or the printer FAULTED), which is a next state. -/
inductive Fault where
  /-- Raised by nothing: kept so that the type names a reason. Safe. -/
  | impossible
  deriving DecidableEq, Repr

/-- The reasons a step may be refused. -/
inductive Refusal where
  /-- Raised by an arm of `exec` whose command has no meaning in the model; no arm is of that kind. Safe: the model stops
  where the part goes on. -/
  | notModelled (mnemonic : String)
  deriving DecidableEq, Repr

end Sys2Proof.Machine
end

