-- ==== Sys2Proof/Machine/Ops.lean ====
section
/-! DEFINITION. The named operations over memory, bytes, counters, the time base and the indexed parts of the state. -/

namespace Sys2Proof.Machine

/-! ### Memory -/

/-- What an address that memory does not list reads as: 0 (assumption log 5). -/
def Memory.blank : Byte := 0

/-- The byte at an address. -/
def Memory.read (m : Memory) (a : Nat) : Byte :=
  match m with
  | [] => Memory.blank
  | (k, v) :: rest => if k = a then v else if a < k then Memory.blank else Memory.read rest a

/-- One cell put in front, left out when it holds what an unlisted address reads as. -/
def Memory.cons (a : Nat) (b : Byte) (m : Memory) : Memory :=
  if b = Memory.blank then m else (a, b) :: m

/-- Memory with one byte written; the canonical form is kept. -/
def Memory.write (m : Memory) (a : Nat) (b : Byte) : Memory :=
  match m with
  | [] => Memory.cons a b []
  | (k, v) :: rest =>
    if a < k then Memory.cons a b ((k, v) :: rest)
    else if a = k then Memory.cons a b rest
    else (k, v) :: Memory.write rest a b

/-- Memory with bytes written at rising addresses. -/
def Memory.writeBytes (m : Memory) (a : Nat) (bs : List Byte) : Memory :=
  match bs with
  | [] => m
  | b :: rest => Memory.writeBytes (Memory.write m a b) (a + 1) rest

/-- `n` bytes read at rising addresses. -/
def Memory.readBytes (m : Memory) (a n : Nat) : List Byte :=
  match n with
  | 0 => []
  | k + 1 => Memory.read m a :: Memory.readBytes m (a + 1) k

/-- Every cell from here on lies above `a` and holds a byte worth listing, at rising addresses. -/
def Memory.above (a : Nat) (m : Memory) : Bool :=
  match m with
  | [] => true
  | (k, v) :: rest => decide (a < k) && decide (v ≠ Memory.blank) && Memory.above k rest

/-- The canonical form: addresses strictly rising, no cell equal to what an unlisted address reads as. -/
def Memory.wf (m : Memory) : Bool :=
  match m with
  | [] => true
  | (k, v) :: rest => decide (v ≠ Memory.blank) && Memory.above k rest

/-! ### Bytes of records (R188) -/

/-- `n` bytes of a number, the least significant first (R188). -/
def leBytes (n v : Nat) : List Byte :=
  match n with
  | 0 => []
  | k + 1 => BitVec.ofNat 8 v :: leBytes k (v / 256)

/-- The number that little-endian bytes spell (R188). -/
def leNat (bs : List Byte) : Nat :=
  match bs with
  | [] => 0
  | b :: rest => b.toNat + 256 * leNat rest

/-- The field of `n` bytes at an offset of a record; bytes beyond the record read 0. -/
def fieldAt (bs : List Byte) (off n : Nat) : Nat := leNat ((bs.drop off).take n)

/-- The byte at an offset of a record. -/
def byteAt (bs : List Byte) (off : Nat) : Byte := bs.getD off 0

/-- The bit of the byte at an offset of a record. -/
def bitAt (bs : List Byte) (off bit : Nat) : Bool := (byteAt bs off).getLsbD bit

/-- A 16-bit field read as two's complement: the thermistor table alone is signed (R188). -/
def signed16 (v : Nat) : Int := (BitVec.ofNat 16 v).toInt

/-- The bytes of `bs` with those at an offset overwritten by `new`. -/
def overwrite (bs : List Byte) (off : Nat) (new : List Byte) : List Byte :=
  bs.take off ++ new ++ bs.drop (off + new.length)

/-- Bytes cut or filled with zeros to a length. -/
def fitBytes (n : Nat) (bs : List Byte) : List Byte := (bs ++ List.replicate n 0).take n

/-- A record of `size` bytes: its fields at their offsets, every byte that no field names zero (R188). -/
def buildRecord (size : Nat) (fields : List (Nat × List Byte)) : List Byte :=
  fitBytes size (fields.foldl (fun b f => overwrite b f.1 f.2) (List.replicate size 0))

/-- A byte of flags, bit 0 first. -/
def flagByte (flags : List Bool) : Nat :=
  match flags with
  | [] => 0
  | f :: rest => (if f then 1 else 0) + 2 * flagByte rest

/-! ### Counters (00_scope 2.4) -/

/-- One more, holding at the maximum. -/
def satInc (max n : Nat) : Nat := if n < max then n + 1 else max

/-- A counter advanced by 1: it holds its maximum, and the advance that finds it there sets its flag (R81, R184, R185). -/
def Counter.advance (max : Nat) (c : Counter) : Counter :=
  if c.value < max then { c with value := c.value + 1 } else { value := max, saturated := true }

/-- The maximum of a 16-bit, a 32-bit and a 64-bit count. -/
def max16 : Nat := 65535
def max32 : Nat := 4294967295
def max64 : Nat := 18446744073709551615

/-! ### Vectors -/

/-- The first index at which a test holds. -/
def firstIndex {α : Type} {n : Nat} (v : Vector α n) (test : α → Bool) : Option (Fin n) :=
  match v.toList.findIdx? test with
  | some i => if h : i < n then some ⟨i, h⟩ else none
  | none => none

/-- Every element mapped. -/
def mapAll {α β : Type} {n : Nat} (f : α → β) (v : Vector α n) : Vector β n :=
  ⟨⟨v.toList.map f⟩, by simp⟩

/-- How many elements pass a test. -/
def countAll {α : Type} {n : Nat} (v : Vector α n) (test : α → Bool) : Nat := v.toList.countP test

/-- The lanes in ascending order. -/
def allLanes : List LaneNo := [0, 1, 2, 3, 4, 5, 6, 7, 8, 9, 10, 11, 12, 13, 14, 15]

/-- The job slots in ascending order. -/
def allSlots : List SlotNo := [0, 1, 2, 3, 4, 5, 6, 7]

/-- The stations in ascending order. -/
def allStations : List StationNo := [0, 1, 2, 3, 4, 5, 6, 7, 8, 9, 10, 11, 12, 13, 14, 15, 16, 17, 18, 19, 20]

/-- A number as a bounded index, where it is one. -/
def toIndex (n v : Nat) : Option (Fin n) := if h : v < n then some ⟨v, h⟩ else none

/-- An element inserted before the first that does not come before it. -/
def insertBy {α : Type} (before : α → α → Bool) (x : α) (l : List α) : List α :=
  match l with
  | [] => [x]
  | y :: rest => if before y x then y :: insertBy before x rest else x :: y :: rest

/-- A list put in order. -/
def sortBy {α : Type} (before : α → α → Bool) (l : List α) : List α :=
  match l with
  | [] => []
  | x :: rest => insertBy before x (sortBy before rest)

/-! ### The indexed parts of the state -/

/-- A lane's context. -/
def State.lane (s : State) (n : LaneNo) : Lane := s.lanes[n]

/-- The state with a lane's context replaced. -/
def State.setLane (s : State) (n : LaneNo) (l : Lane) : State := { s with lanes := s.lanes.set n.val l n.isLt }

/-- The state with a lane's context changed. -/
def State.updLane (s : State) (n : LaneNo) (f : Lane → Lane) : State := s.setLane n (f (s.lane n))

/-- A drive link port. -/
def State.link (s : State) (n : LaneNo) : Link := s.links[n]

/-- The state with a port replaced. -/
def State.setLink (s : State) (n : LaneNo) (l : Link) : State := { s with links := s.links.set n.val l n.isLt }

/-- A job context. -/
def State.job (s : State) (j : SlotNo) : Job := s.jobs[j]

/-- The state with a job context replaced. -/
def State.setJob (s : State) (j : SlotNo) (v : Job) : State := { s with jobs := s.jobs.set j.val v j.isLt }

/-- A roster record's working copy, absent when the index is FREE. -/
def State.disc (s : State) (i : DiscNo) : Option DiscRecord := s.roster.map[i]

/-- The state with an entry of the allocation map replaced. -/
def State.setDisc (s : State) (i : DiscNo) (r : Option DiscRecord) : State :=
  { s with roster.map := s.roster.map.set i.val r i.isLt }

/-- A frame record. -/
def State.frame (s : State) (f : FrameNo) : Frame := s.frames[f]

/-- The state with a frame record replaced. -/
def State.setFrame (s : State) (f : FrameNo) (v : Frame) : State := { s with frames := s.frames.set f.val v f.isLt }

/-- A compare unit. -/
def State.unit (s : State) (u : UnitNo) : CompareUnit := s.verify.units[u]

/-- The state with a compare unit replaced. -/
def State.setUnit (s : State) (u : UnitNo) (v : CompareUnit) : State :=
  { s with verify.units := s.verify.units.set u.val v u.isLt }

/-- An entry of the station table. -/
def State.station (s : State) (k : StationNo) : Station := s.transport.stations[k]

/-- An entry of the station map. -/
def State.entry (s : State) (k : StationNo) : StationEntry := s.transport.map[k]

/-- The state with a station map entry replaced. -/
def State.setEntry (s : State) (k : StationNo) (e : StationEntry) : State :=
  { s with transport.map := s.transport.map.set k.val e k.isLt }

/-- A requester's slot of the task queue. -/
def State.queued (s : State) (r : RequesterNo) : Option Task := s.transport.queue[r]

/-- The state with a requester's slot replaced. -/
def State.setQueued (s : State) (r : RequesterNo) (t : Option Task) : State :=
  { s with transport.queue := s.transport.queue.set r.val t r.isLt }

/-! ### Stations and requesters (00_scope 2.8, R128) -/

def stationA : StationNo := 0
def stationB : StationNo := 1
def stationOutput : StationNo := 2
def stationReject : StationNo := 3
def stationPrinter : StationNo := 4

/-- The drive tray of a lane: station 5 + n. -/
def trayOf (n : LaneNo) : StationNo := ⟨5 + n.val, by omega⟩

/-- The lane whose drive tray a station is. -/
def laneOfTray (k : StationNo) : Option LaneNo :=
  if h : 5 ≤ k.val then some ⟨k.val - 5, by omega⟩ else none

/-- A station is a tray (4..20), not a spindle. -/
def isTray (k : StationNo) : Bool := decide (4 ≤ k.val)

/-- The requester number of a lane. -/
def requesterOf (n : LaneNo) : RequesterNo := ⟨n.val, by omega⟩

/-- The requester number of the printer. -/
def requesterPrinter : RequesterNo := 16

/-- The lane a requester is. -/
def laneOfRequester (r : RequesterNo) : Option LaneNo := toIndex 16 r.val

/-- The input spindle's station. -/
def spindleStation : Spindle → StationNo
  | .a => stationA
  | .b => stationB

/-! ### Time (00_scope 1.2, 2.3) -/

/-- The greatest value of the 48-bit time base, which it holds. -/
def timeMax : Nat := 281474976710655

/-- The present time, in microseconds. -/
def State.now (s : State) : Nat := s.port.timeBase

/-- The time base at a moment not before `t`. -/
def State.advanceTo (s : State) (t : Nat) : State := { s with port.timeBase := min timeMax (max s.port.timeBase t) }

/-- The time base one microsecond on. -/
def State.tick (s : State) : State := { s with port.timeBase := satInc timeMax s.port.timeBase }

/-! ### Free values (assumption log 53) -/

/-- One more free value drawn. -/
def State.draw (s : State) : State := { s with draws := s.draws + 1 }

/-- The sensors as the part reads them at a moment no command carries their levels. -/
def State.sensed (s : State) : Sensors :=
  ⟨Config.discSensor s.draws, Config.thicknessSensor s.draws, Config.ribbonSensor s.draws⟩

/-! ### Reports between blocks -/

/-- A report or request that the step has still to take. -/
def State.emit (sig : Signal) (s : State) : State := { s with signals := s.signals ++ [sig] }

end Sys2Proof.Machine
end

