-- ==== Sys2Proof/Machine/Flags.lean ====
section
/-! DEFINITION. Every flag of the part: the sticky causes and the interrupt (R186), the stall flags (R21), the saturated flags
of the counters (2.4, R81), the valid bits of a disc record (R28) and the flag bytes of the status blocks (11.7). -/

namespace Sys2Proof.Machine

/-! ### CAUSE and the interrupt (R186) -/

/-- The six causes (R186). -/
inductive Cause where
  | sheet
  | log
  | stop
  | refused
  | config
  | window
  deriving DecidableEq, Repr

/-- The bit of a cause, SHEET 0 to WINDOW 5 (11.1). -/
def Cause.mask : Cause → BitVec 6
  | .sheet => 1
  | .log => 2
  | .stop => 4
  | .refused => 8
  | .config => 16
  | .window => 32

/-- CAUSE with a cause set: it stays set until CAUSE is read (R186). -/
def setCause (c : Cause) (s : State) : State := { s with port.cause := s.port.cause ||| c.mask }

/-- A cause is set in CAUSE. -/
def hasCause (c : Cause) (s : State) : Bool := decide (s.port.cause &&& c.mask ≠ 0)

/-- The interrupt is asserted while any cause is set whose cause enable is set (R186). -/
def interrupt (s : State) : Bool := decide (s.port.cause &&& s.port.causeEnables ≠ 0)

/-! ### Stall flags (R21) -/

/-- The stall flags as a byte (11.1). -/
def stallByte (f : StallFlags) : Nat :=
  flagByte [f.supplyEmpty, f.rosterFull, f.outputFull, f.rejectFull, f.noLane]

/-- A lane that dispatch may offer: IDLE, with no diagnosis running (R18). -/
def laneIdle (s : State) (n : LaneNo) : Bool := decide ((s.lane n).state = .idle) && (s.lane n).diag.isNone

/-- A lane is named in a lane set (R4). -/
def inLaneSet (set : BitVec 16) (n : LaneNo) : Bool := set.getLsbD n.val

/-- The number of FREE indices of the roster, 0..256 (R27). -/
def freeCount (s : State) : Nat := countAll s.roster.map (·.isNone)

/-- good + in_flight + reserved (01 1.3). -/
def Job.sum (j : Job) : Nat := j.good + j.inFlight + j.reserved

/-- The copies a job asks for; 0 for a slot with no job. -/
def Job.copies (j : Job) : Nat :=
  match j.record with
  | some r => r.copies
  | none => 0

/-- The stall flags of a job as the present conditions give them: clear unless it is RUNNING below its copies (R21). -/
def stallFlags (s : State) (j : SlotNo) : StallFlags :=
  let job := s.job j
  match job.record with
  | some r =>
    if job.state = .running ∧ job.sum < r.copies then
      { supplyEmpty := (s.entry (spindleStation r.spindle)).empty
        rosterFull := decide (freeCount s = 0)
        outputFull := (s.entry stationOutput).full
        rejectFull := (s.entry stationReject).full
        noLane := !(allLanes.any fun n => inLaneSet r.laneSet n && laneIdle s n) }
    else StallFlags.clear
  | none => StallFlags.clear

/-! ### Saturated flags (R81) -/

/-- The six saturated flags of a lane's counters as a byte (11.1). -/
def saturatedByte (c : LaneCounters) : Nat :=
  flagByte [c.sectorsWritten.saturated, c.gaps.saturated, c.downshifts.saturated, c.upshifts.saturated,
    c.discsGood.saturated, c.discsRejected.saturated]

/-! ### The valid mask of a disc record (R28, 11.6) -/

/-- The twelve valid bits: serial, reject reason, start rate, write totals, verify counts, raster, the six timestamps. -/
def validMask (r : DiscRecord) : Nat :=
  flagByte [r.serial.isSome, r.reason.isSome, r.startRate.isSome, r.totals.isSome, r.verify.isSome, r.raster.isSome,
    r.pickedAt.isSome, r.writeStart.isSome, r.writeEnd.isSome, r.verifyEnd.isSome, r.printedAt.isSome, r.droppedAt.isSome]

/-! ### Flag bytes of the status blocks (11.7) -/

/-- Lane status 0x01; the rates are valid while both the ceiling and the current rate are there: 11.7 gives the two one bit (DESIGN CHOICE,
assumption log 73). -/
def laneFlags (l : Lane) (up : Bool) : Nat :=
  flagByte [l.enabled, up, l.disc.isSome, l.ceiling.isSome && l.rate.isSome, l.diagResult.isSome,
    match l.diagResult with
    | some r => r.firstMismatch.isSome
    | none => false]

/-- Station map entry 0x01. -/
def entryFlags (e : StationEntry) : Nat := flagByte [e.disc.isSome, e.claim, e.empty, e.full]

/-- The arm waits at a FULL spindle (R130, R136). -/
def armWaitingFull (t : Transport) : Bool :=
  match t.current with
  | some c => decide (c.phase = .waitFull) && decide (t.arm = .moving)
  | none => false

/-- Transport status 0x01. -/
def transportFlags (t : Transport) : Nat :=
  flagByte [t.posValid, t.gripperClosed, t.discPresent, t.thicknessTwo, t.current.isSome, armWaitingFull t]

/-- Printer status 0x01. -/
def printerFlags (p : Printer) : Nat :=
  flagByte [p.halt, p.disc.isSome, decide (p.disc = some .orphan), p.complete, p.present, p.bound.isSome]

/-- Window header 0x06. -/
def headerFlags (p : Port) : Nat := flagByte [p.updateCount.saturated, p.logCount.saturated]

end Sys2Proof.Machine
end

