-- ==== Sys2Proof/Machine/Formats.lean ====
section
/-! DEFINITION. The record formats of chapter 11: the codes of the enumerations, the bytes of every record the part writes, and
the decoding of every record it reads. -/

namespace Sys2Proof.Machine

/-! ### Codes (11.1) -/

def PartState.code : PartState → Nat
  | .stopped => 0
  | .starting => 1
  | .running => 2
  | .faulted => 3

/-- The results of a sheet (R182). -/
inductive SheetResult where
  | ok
  | badState
  | badCount
  | badAddress
  deriving DecidableEq, Repr

def SheetResult.code : SheetResult → Nat
  | .ok => 0
  | .badState => 1
  | .badCount => 2
  | .badAddress => 3

/-- The states of a sheet the part tells apart and writes (11.1). -/
def sheetFilled : Nat := 1
def sheetTaken : Nat := 2
def sheetReturned : Nat := 3

/-- The result codes of a request (R183). -/
inductive ResultCode where
  | ok
  | busy
  | badSlot
  | badState
  | badAddress
  | badField
  | badSubst
  | badOverlay
  | unknownKind
  deriving DecidableEq, Repr

def ResultCode.code : ResultCode → Nat
  | .ok => 0
  | .busy => 1
  | .badSlot => 2
  | .badState => 3
  | .badAddress => 4
  | .badField => 5
  | .badSubst => 6
  | .badOverlay => 7
  | .unknownKind => 9

def JobState.code : JobState → Nat
  | .free => 0
  | .running => 1
  | .draining => 2
  | .held => 3
  | .aborting => 4
  | .done => 5
  | .aborted => 6

def HoldReason.code : HoldReason → Nat
  | .host => 1
  | .serialRange => 2
  | .imageFetch => 3
  | .supplySuspect => 4

/-- The verify mode of a code (11.1). -/
def verifyModeOf : Nat → Option VerifyMode
  | 0 => some .off
  | 1 => some .readability
  | 2 => some .compare
  | _ => none

/-- The input spindle of a code (11.1). -/
def spindleOf : Nat → Option Spindle
  | 0 => some .a
  | 1 => some .b
  | _ => none

def DiscOutcome.code : DiscOutcome → Nat
  | .reserved => 1
  | .pending => 2
  | .passed => 3
  | .good => 4
  | .rejected => 5

def Location.code : Location → Nat
  | .nowhere => 0
  | .arm => 1
  | .printer => 2
  | .output => 3
  | .reject => 4
  | .lane n => 16 + n.val
  | .other c => c.toNat

/-- The location of a code (11.1). -/
def locationOf (c : Byte) : Location :=
  match c.toNat with
  | 0 => .nowhere
  | 1 => .arm
  | 2 => .printer
  | 3 => .output
  | 4 => .reject
  | v => if h : 16 ≤ v ∧ v < 32 then .lane ⟨v - 16, by omega⟩ else .other c

def RejectReason.code : RejectReason → Nat
  | .wrongMedia => 1
  | .notBlank => 2
  | .tooSmall => 3
  | .noSpeed => 4
  | .writeFault => 5
  | .writeStall => 6
  | .gapLimit => 7
  | .driveFault => 8
  | .laneDisabled => 9
  | .verifyHard => 10
  | .verifyMiscompare => 11
  | .verifySoft => 12
  | .verifyReference => 13
  | .imageFetch => 14
  | .doubleFeed => 15
  | .transportFault => 16
  | .labelIncomplete => 17
  | .aborted => 18
  | .reset => 19
  | .other c => c.toNat

/-- The reject reason of a code (11.1). -/
def reasonOf (c : Byte) : RejectReason :=
  match c.toNat with
  | 1 => .wrongMedia
  | 2 => .notBlank
  | 3 => .tooSmall
  | 4 => .noSpeed
  | 5 => .writeFault
  | 6 => .writeStall
  | 7 => .gapLimit
  | 8 => .driveFault
  | 9 => .laneDisabled
  | 10 => .verifyHard
  | 11 => .verifyMiscompare
  | 12 => .verifySoft
  | 13 => .verifyReference
  | 14 => .imageFetch
  | 15 => .doubleFeed
  | 16 => .transportFault
  | 17 => .labelIncomplete
  | 18 => .aborted
  | 19 => .reset
  | _ => .other c

def LaneState.code : LaneState → Nat
  | .unknown => 0
  | .offline => 1
  | .idle => 2
  | .loadWait => 3
  | .trayLoad => 4
  | .probing => 5
  | .negotiating => 6
  | .writing => 7
  | .closing => 8
  | .verifying => 9
  | .unloadWait => 10
  | .trayUnload => 11
  | .faulted => 12

def DiagEnd.code : DiagEnd → Nat
  | .pass => 1
  | .mismatch => 2
  | .reference => 3

def Occupancy.code : Occupancy → Nat
  | .empty => 0
  | .occupied => 1
  | .unknown => 2

def ArmState.code : ArmState → Nat
  | .unhomed => 0
  | .homing => 1
  | .idle => 2
  | .moving => 3
  | .stopped => 4
  | .faulted => 5

def ArmCause.code : ArmCause → Nat
  | .moveTimeout => 1
  | .gripMiss => 2
  | .releaseFail => 3
  | .trayOccupied => 4
  | .homeFail => 5

/-- The task kinds have three codes; the sweep's own steps show as an unload of the printer (assumption log 20). -/
def TaskKind.code : TaskKind → Nat
  | .load => 0
  | .unloadLane => 1
  | .unloadPrinter => 2
  | .sweepGripper => 2
  | .sweepPrinter => 2

/-- The task phase shown (11.1): approach, waiting at a tray, descent and grip or release, carry, waiting at a FULL spindle. Three are the
model's (DESIGN CHOICE, assumption log 74): a rise after a grip or a release, and a shake, which 11.1 names under no phase, show as the
descent and grip or release (2); the lift and swing with a disc toward a tray, which R134 calls both carrying and the approach, show as
the carry (3). -/
def ArmPhase.code : ArmPhase → Nat
  | .lift toDest => if toDest then 3 else 0
  | .swing toDest => if toDest then 3 else 0
  | .waitTray _ => 1
  | .descend _ => 2
  | .search _ => 2
  | .shake _ => 2
  | .rise _ => 2
  | .waitFull => 4

def PrinterState.code : PrinterState → Nat
  | .empty => 0
  | .loaded => 1
  | .printing => 2
  | .hotHold => 3
  | .supplyWait => 4
  | .finished => 5
  | .faulted => 6

def PrinterCause.code : PrinterCause → Nat
  | .ribbonOut => 1
  | .sensor => 2
  | .headHot => 3
  | .supplyLow => 4
  | .trayTimeout => 5

/-- The causes of a LANE_FAULT entry (R106). -/
inductive LaneCause where
  | linkDown
  | trayTimeout
  | trayJammed
  | trayStateWrong
  | trayEmpty
  deriving DecidableEq, Repr

def LaneCause.code : LaneCause → Nat
  | .linkDown => 1
  | .trayTimeout => 2
  | .trayJammed => 3
  | .trayStateWrong => 4
  | .trayEmpty => 5

def TrayCmd.code : TrayCmd → Nat
  | .opened => 1
  | .close => 2
  | .query => 3

/-- How an attempt of a fill failed (R53). -/
inductive FetchFailure where
  | readError
  | timeout
  deriving DecidableEq, Repr

def FetchFailure.code : FetchFailure → Nat
  | .readError => 1
  | .timeout => 2

/-- The 24 kinds of log entry (R184), in the order of their codes. -/
inductive LogKind where
  | jobAdmitted
  | jobHeld
  | jobResumed
  | jobDone
  | jobAborted
  | discPicked
  | discGood
  | discRejected
  | laneSpeed
  | lanePaceFloor
  | laneDisabled
  | diagDone
  | inputEmpty
  | outputFull
  | rejectFull
  | orphanSwept
  | stopAsserted
  | stopCleared
  | headHotHold
  | labelRetired
  | laneFault
  | fetchFault
  | armFault
  | printerFault
  deriving DecidableEq, Repr

def LogKind.code : LogKind → Nat
  | .jobAdmitted => 1
  | .jobHeld => 2
  | .jobResumed => 3
  | .jobDone => 4
  | .jobAborted => 5
  | .discPicked => 6
  | .discGood => 7
  | .discRejected => 8
  | .laneSpeed => 9
  | .lanePaceFloor => 10
  | .laneDisabled => 11
  | .diagDone => 12
  | .inputEmpty => 13
  | .outputFull => 14
  | .rejectFull => 15
  | .orphanSwept => 16
  | .stopAsserted => 17
  | .stopCleared => 18
  | .headHotHold => 19
  | .labelRetired => 20
  | .laneFault => 21
  | .fetchFault => 22
  | .armFault => 23
  | .printerFault => 24

/-- The class of a kind (R184): JOB 0, DISC 1, LANE 2, TRANSPORT 3, PRINTER 4, FAULT 5. -/
def LogKind.classCode : LogKind → Nat
  | .jobAdmitted | .jobHeld | .jobResumed | .jobDone | .jobAborted => 0
  | .discPicked | .discGood | .discRejected => 1
  | .laneSpeed | .lanePaceFloor | .laneDisabled | .diagDone => 2
  | .inputEmpty | .outputFull | .rejectFull | .orphanSwept | .stopAsserted | .stopCleared => 3
  | .headHotHold | .labelRetired => 4
  | .laneFault | .fetchFault | .armFault | .printerFault => 5

/-- The subject kind of a kind (11.8): 0 absent, 1 job slot, 2 lane, 3 disc index, 4 station. -/
def LogKind.subjectCode : LogKind → Nat
  | .jobAdmitted | .jobHeld | .jobResumed | .jobDone | .jobAborted | .fetchFault => 1
  | .discPicked | .discGood | .discRejected | .headHotHold => 3
  | .laneSpeed | .lanePaceFloor | .laneDisabled | .diagDone | .laneFault => 2
  | .inputEmpty | .outputFull | .rejectFull => 4
  | .orphanSwept | .stopAsserted | .stopCleared | .labelRetired | .armFault | .printerFault => 0

/-! ### Small encodings -/

/-- A present value, or 0 for an absent one (R188). -/
def orZero (o : Option Nat) : Nat := o.getD 0

def byte (v : Nat) : List Byte := leBytes 1 v
def half (v : Nat) : List Byte := leBytes 2 v
def word (v : Nat) : List Byte := leBytes 4 v
def dword (v : Nat) : List Byte := leBytes 8 v

/-! ### Window header (11.3) and log entry (11.8) -/

/-- The window header, 256 bytes (R185, 11.3). -/
def headerBytes (p : Port) : List Byte :=
  buildRecord 256
    [(0x00, word Config.layoutVersion.toNat),
     (0x04, byte p.part.code),
     (0x05, byte (flagByte [p.stopPending])),
     (0x06, byte (headerFlags p)),
     (0x08, word p.updateCount.value),
     (0x0C, word p.logCount.value),
     (0x10, dword p.timeBase)]

/-- A log entry, 32 bytes (R184, 11.8). -/
def logBytes (number time : Nat) (kind : LogKind) (subject : Nat) (detail : List Byte) : List Byte :=
  buildRecord 32
    [(0x00, word number),
     (0x04, byte kind.code),
     (0x05, byte kind.classCode),
     (0x06, byte kind.subjectCode),
     (0x07, byte (if kind.subjectCode = 0 then 0 else subject)),
     (0x08, dword time),
     (0x10, fitBytes 16 detail)]

/-! ### Status blocks (11.7) -/

/-- A job status block, 256 bytes (R1, 11.7). -/
def jobBlock (j : Job) : List Byte :=
  buildRecord 256
    [(0x00, byte j.state.code),
     (0x01, byte (match j.hold with | some h => h.code | none => 0)),
     (0x02, byte (match j.record with | some r => r.priority | none => 0)),
     (0x03, byte (match j.record with | some r => r.tolerate.toNat | none => 0)),
     (0x04, half j.copies),
     (0x06, half j.good),
     (0x08, word j.issued),
     (0x0C, word j.rejected),
     (0x10, byte j.inFlight),
     (0x11, byte j.reserved),
     (0x12, byte j.probeRun),
     (0x13, byte (stallByte j.stall)),
     (0x14, byte (flagByte [j.nextSerial.isSome, j.raster.isSome])),
     (0x18, dword (orZero j.nextSerial)),
     (0x20, dword (match j.raster with | some r => r.1 | none => 0)),
     (0x28, half (match j.raster with | some r => r.2 | none => 0))]

/-- The six counters as they stand in a lane status block and in TAKE_COUNTS result data, 14 bytes (11.4, 11.7). -/
def counterBytes (c : LaneCounters) : List Byte :=
  word c.sectorsWritten.value ++ half c.gaps.value ++ half c.downshifts.value ++ half c.upshifts.value ++
    half c.discsGood.value ++ half c.discsRejected.value

/-- The trail entries of a lane status block, oldest first: the time base in six bytes, the lane state in byte 6 (11.7). -/
def trailFields (at_ : Nat) : List (LaneState × Nat) → List (Nat × List Byte)
  | [] => []
  | e :: rest => (at_, leBytes 6 e.2 ++ byte e.1.code) :: trailFields (at_ + 8) rest

/-- A lane status block, 128 bytes (R64, 11.7). -/
def laneBlock (l : Lane) (up : Bool) : List Byte :=
  buildRecord 128
    ([(0x00, byte l.state.code),
      (0x01, byte (laneFlags l up)),
      (0x02, half l.cap),
      (0x04, byte (match l.disc with | some d => d.index.val | none => 0)),
      (0x05, byte (match l.disc with | some d => d.slot.val | none => 0)),
      (0x06, half (orZero l.ceiling)),
      (0x08, half (orZero l.rate)),
      (0x0A, byte l.fifo.length),
      (0x0B, byte l.faultRun),
      (0x0C, half l.credits),
      (0x0E, byte l.pace.history.toNat),
      (0x0F, byte l.pace.reviews),
      (0x10, counterBytes l.counters),
      (0x1E, byte (saturatedByte l.counters)),
      (0x1F, byte (match l.diagResult with | some r => r.outcome.code | none => 0)),
      (0x20, half l.stray),
      (0x22, byte (match l.diagResult with | some r => r.slot.val | none => 0)),
      (0x23, byte (match l.diagResult with | some r => r.pagesDone | none => 0)),
      (0x24, half (match l.diagResult with | some r => r.sectorsCompared | none => 0)),
      (0x26, half (match l.diagResult with | some r => r.mismatches | none => 0)),
      (0x28, word (match l.diagResult with | some r => orZero r.firstMismatch | none => 0)),
      (0x2C, byte l.trail.length)] ++ trailFields 0x40 l.trail)

/-- A station map entry, 16 bytes (R124, 11.7). -/
def entryBytes (e : StationEntry) : List Byte :=
  buildRecord 16
    [(0x00, byte e.occupancy.code),
     (0x01, byte (entryFlags e)),
     (0x02, byte (match e.disc with | some d => d.val | none => 0)),
     (0x04, half e.count)]

/-- The set of requesters with a queued task, bit r for requester r (11.7). -/
def queuedMask (q : Vector (Option Task) 17) : Nat := flagByte (q.toList.map (·.isSome))

/-- The transport status, 64 bytes (R130, 11.7); positions that are not valid are written as zero (R188). -/
def transportBlock (t : Transport) : List Byte :=
  buildRecord 64
    ([(0x00, byte t.arm.code),
      (0x01, byte (transportFlags t)),
      (0x02, half (if t.posValid then t.shownLift else 0)),
      (0x04, half (if t.posValid then t.shownSwing else 0)),
      (0x0B, byte (match t.lastCause with | some c => c.code | none => 0)),
      (0x0C, word (queuedMask t.queue))] ++
     match t.current with
     | some c =>
       [(0x06, byte c.task.kind.code),
        (0x07, byte c.task.requester.val),
        (0x08, byte c.task.dest.val),
        (0x09, byte c.phase.code),
        (0x0A, byte c.task.faults)]
     | none => [])

/-- The printer status, 64 bytes (R147, 11.7). -/
def printerBlock (p : Printer) : List Byte :=
  buildRecord 64
    ([(0x00, byte p.state.code),
      (0x01, byte (printerFlags p)),
      (0x02, byte (match p.cause with | some c => c.code | none => 0)),
      (0x03, byte (match p.disc with | some (.disc d) => d.index.val | _ => 0)),
      (0x04, byte (match p.disc with | some (.disc d) => d.slot.val | _ => 0)),
      (0x05, byte (match p.tray with | .lost => 0 | .home => 1 | .line _ => 2)),
      (0x06, half (match p.tray with | .line n => n | _ => 0)),
      (0x08, dword (match p.bound with | some b => b.1 | none => 0)),
      (0x10, half (match p.bound with | some b => b.2 | none => 0)),
      (0x12, half p.linesStruck),
      (0x14, half p.starved),
      (0x16, half p.stretched),
      (0x18, half p.lastPulse),
      (0x1A, half p.lastPeriod),
      (0x1C, half p.sample.thermistor.toNat),
      (0x1E, half p.sample.supply.toNat),
      (0x20, half p.nextLine)] ++
     match p.uses with
     | u :: _ => [(0x22, byte u.count), (0x23, byte (flagByte [u.retiring])), (0x28, dword u.address)]
     | [] => [])

/-! ### Disc records (11.6) -/

/-- A disc record, 128 bytes (R28, R34, 11.6). -/
def discBytes (r : DiscRecord) : List Byte :=
  buildRecord 128
    [(0x00, byte r.outcome.code),
     (0x01, byte r.location.code),
     (0x02, byte r.slot.toNat),
     (0x03, byte r.laneUsed.toNat),
     (0x04, byte (flagByte [r.doubleFeed, r.printed])),
     (0x05, byte (match r.reason with | some x => x.code | none => 0)),
     (0x06, half (validMask r)),
     (0x08, dword (orZero r.serial)),
     (0x10, half (orZero r.startRate)),
     (0x12, half (match r.totals with | some t => t.finalRate | none => 0)),
     (0x14, half (match r.totals with | some t => t.gaps | none => 0)),
     (0x16, half (match r.totals with | some t => t.downshifts | none => 0)),
     (0x18, half (match r.totals with | some t => t.upshifts | none => 0)),
     (0x1A, half (match r.verify with | some v => v.hard | none => 0)),
     (0x1C, half (match r.verify with | some v => v.miscompare | none => 0)),
     (0x1E, half (match r.verify with | some v => v.soft | none => 0)),
     (0x20, dword (orZero r.raster)),
     (0x28, dword (orZero r.pickedAt)),
     (0x30, dword (orZero r.writeStart)),
     (0x38, dword (orZero r.writeEnd)),
     (0x40, dword (orZero r.verifyEnd)),
     (0x48, dword (orZero r.printedAt)),
     (0x50, dword (orZero r.droppedAt))]

/-- A roster record as the window shows it: a FREE record is all zero (R28). -/
def rosterBytes (r : Option DiscRecord) : List Byte :=
  match r with
  | some d => discBytes d
  | none => List.replicate 128 0

/-- A field of a record read back, present when its valid bit is set. -/
def validField (b : List Byte) (bit off n : Nat) : Option Nat :=
  if (fieldAt b 6 2).testBit bit then some (fieldAt b off n) else none

/-- A time of a roster record, where its valid bit is set: the 48-bit count of its low six bytes (R188). -/
def timeField (b : List Byte) (bit off : Nat) : Option Nat := validField b bit off 6

/-- The outcome of a code (11.1); FREE and unrecognised codes give none. -/
def outcomeOf : Nat → Option DiscOutcome
  | 1 => some .reserved
  | 2 => some .pending
  | 3 => some .passed
  | 4 => some .good
  | 5 => some .rejected
  | _ => none

/-- The working copy of a roster record as the start-up clean found it (R40, R42). -/
def discOfBytes (o : DiscOutcome) (b : List Byte) : DiscRecord where
  outcome := o
  location := locationOf (byteAt b 1)
  slot := byteAt b 2
  laneUsed := byteAt b 3
  doubleFeed := bitAt b 4 0
  printed := bitAt b 4 1
  serial := validField b 0 0x08 8
  reason := if (fieldAt b 6 2).testBit 1 then some (reasonOf (byteAt b 5)) else none
  startRate := validField b 2 0x10 2
  totals :=
    if (fieldAt b 6 2).testBit 3 then some ⟨fieldAt b 0x12 2, fieldAt b 0x14 2, fieldAt b 0x16 2, fieldAt b 0x18 2⟩
    else none
  verify :=
    if (fieldAt b 6 2).testBit 4 then some ⟨fieldAt b 0x1A 2, fieldAt b 0x1C 2, fieldAt b 0x1E 2⟩ else none
  raster := validField b 5 0x20 8
  pickedAt := timeField b 6 0x28
  writeStart := timeField b 7 0x30
  writeEnd := timeField b 8 0x38
  verifyEnd := timeField b 9 0x40
  printedAt := timeField b 10 0x48
  droppedAt := timeField b 11 0x50

/-! ### Print profile (11.8, R162) -/

/-- The profile that 64 bytes spell. -/
def profileOfBytes (b : List Byte) : Profile where
  table := (List.range 17).map fun i => signed16 (fieldAt b (2 * i) 2)
  tmax := (fieldAt b 0x22 2 : Nat)
  kt := (fieldAt b 0x24 1 : Nat)
  p0 := fieldAt b 0x26 2
  vref := fieldAt b 0x28 2
  vmin := fieldAt b 0x2A 2
  pmin := fieldAt b 0x2C 2
  pmax := fieldAt b 0x2E 2
  h1 := fieldAt b 0x30 2
  h2 := fieldAt b 0x32 2
  period := fieldAt b 0x34 2

/-- The legal values of the profile's fields (R162). -/
def profileLegal (p : Profile) : Bool :=
  (p.table.all fun t => decide (-160 ≤ t) && decide (t ≤ 600)) &&
  decide (0 ≤ p.tmax ∧ p.tmax ≤ 600) && decide (0 ≤ p.kt ∧ p.kt ≤ 63) &&
  decide (200 ≤ p.p0 ∧ p.p0 ≤ 4000) && decide (10000 ≤ p.vref ∧ p.vref ≤ 30000) &&
  decide (5000 ≤ p.vmin ∧ p.vmin ≤ 30000) && decide (50 ≤ p.pmin ∧ p.pmin ≤ p.pmax ∧ p.pmax ≤ 4000) &&
  decide (64 ≤ p.h2 ∧ p.h2 ≤ p.h1 ∧ p.h1 ≤ 256) && decide (1000 ≤ p.period ∧ p.period ≤ 20000)

/-! ### Configuration block (11.3, R180) -/

/-- The configuration block as RUN reads it. -/
structure ConfigBlock where
  version : Nat
  stations : Vector Station 21
  laneEnables : BitVec 16
  deadTime : Nat
  holdDuty : Nat
  logClasses : BitVec 6
  laneCaps : Vector Nat 16
  profile : Profile
  deriving DecidableEq, Repr

/-- An entry of the block's station table; the capacity is read for stations 0..3 only. -/
def stationOfBytes (b : List Byte) (k : StationNo) : Station where
  swing := fieldAt b (8 + 8 * k.val) 2
  lift := fieldAt b (8 + 8 * k.val + 2) 2
  capacity := if k.val ≤ 3 then fieldAt b (8 + 8 * k.val + 4) 2 else 0

/-- The configuration block that 4 KiB spell. -/
def configOfBytes (b : List Byte) : ConfigBlock where
  version := fieldAt b 0 4
  stations := ⟨⟨allStations.map (stationOfBytes b)⟩, rfl⟩
  laneEnables := BitVec.ofNat 16 (fieldAt b 0x0B0 2)
  deadTime := fieldAt b 0x0B2 1
  holdDuty := fieldAt b 0x0B3 1
  logClasses := BitVec.ofNat 6 (fieldAt b 0x0B4 1)
  laneCaps := ⟨⟨allLanes.map fun n => fieldAt b (0x0C0 + 2 * n.val) 2⟩, rfl⟩
  profile := profileOfBytes (b.drop 0x100)

/-- A rate cap: 0, or 75..32,767 (R62, R84, R180). -/
def capLegal (c : Nat) : Bool := decide (c = 0 ∨ (75 ≤ c ∧ c ≤ 32767))

/-- The validation of the block's fields (R180, checks 3 and 4). -/
def configLegal (c : ConfigBlock) : Bool :=
  decide (c.version = Config.layoutVersion.toNat) &&
  (c.stations.toList.all fun st => decide (st.swing ≤ 51199) && decide (st.lift ≤ 23999)) &&
  ((c.stations.toList.take 4).all fun st => decide (1 ≤ st.capacity ∧ st.capacity ≤ 150)) &&
  (c.laneCaps.toList.all capLegal) && profileLegal c.profile &&
  decide (4 ≤ c.deadTime ∧ c.deadTime ≤ 128) && decide (c.holdDuty ≤ 100)

/-! ### Job record (11.5) -/

/-- The extents of check 4 of ADMIT_JOB and the addresses they start at (R3): image, raster and glyph strip, the last two
only for a job that prints. -/
structure JobExtents where
  image : Nat × Nat
  raster : Option (Nat × Nat)
  strip : Option (Nat × Nat)
  deriving DecidableEq, Repr

/-- Print enable, start held and overlay present (11.5, 0x1A). -/
def recPrint (b : List Byte) : Bool := bitAt b 0x1A 0
def recStartHeld (b : List Byte) : Bool := bitAt b 0x1A 1
def recOverlay (b : List Byte) : Bool := bitAt b 0x1A 2

/-- The size of a glyph strip: ten glyphs of height lines of ⌈width / 8⌉ bytes (R2). -/
def stripSize (width height : Nat) : Nat := 10 * height * ((width + 7) / 8)

/-- The extents of a job record as the host wrote them (R3, check 4). -/
def jobExtents (b : List Byte) : JobExtents where
  image := (fieldAt b 0x00 8, fieldAt b 0x08 4 * 2048)
  raster := if recPrint b then some (fieldAt b 0x20 8, fieldAt b 0x28 2 * 168) else none
  strip :=
    if recPrint b && recOverlay b then some (fieldAt b 0x30 8, stripSize (fieldAt b 0x2A 1) (fieldAt b 0x2B 1)) else none

/-- Check 5 of ADMIT_JOB: every field in its range (R4). -/
def jobFieldsLegal (b : List Byte) : Bool :=
  decide (fieldAt b 0x00 8 % 4096 = 0) &&
  decide (1 ≤ fieldAt b 0x08 4 ∧ fieldAt b 0x08 4 ≤ 67108864) &&
  decide (1 ≤ fieldAt b 0x0E 1 ∧ fieldAt b 0x0E 1 ≤ 3) &&
  decide (1 ≤ fieldAt b 0x0C 2) &&
  (spindleOf (fieldAt b 0x0F 1)).isSome &&
  decide (fieldAt b 0x10 2 ≠ 0) &&
  capLegal (fieldAt b 0x12 2) &&
  decide (fieldAt b 0x14 1 ≤ 3) &&
  (verifyModeOf (fieldAt b 0x15 1)).isSome &&
  decide (fieldAt b 0x17 1 ≤ 15) &&
  (!recPrint b || decide (1 ≤ fieldAt b 0x28 2 ∧ fieldAt b 0x28 2 ≤ 1344)) &&
  (!(recPrint b && recOverlay b) ||
    (decide (8 ≤ fieldAt b 0x2A 1 ∧ fieldAt b 0x2A 1 ≤ 64) &&
     decide (8 ≤ fieldAt b 0x2B 1 ∧ fieldAt b 0x2B 1 ≤ 128) &&
     decide (fieldAt b 0x2C 2 ≤ 1343) && decide (fieldAt b 0x2E 2 ≤ 1343)))

/-- The bytes of substitution entry i of a job record (11.5). -/
def substBytes (b : List Byte) (i : Nat) : List Byte := (b.drop (0x40 + 32 * i)).take 32

/-- One substitution entry, absent when its own fields break a rule of R5. -/
def substOfBytes (sectors : Nat) (e : List Byte) : Option Subst :=
  let sector := fieldAt e 0 4
  let offset := fieldAt e 4 2
  let length := fieldAt e 6 1
  if sector < sectors ∧ offset ≤ 2047 ∧ 1 ≤ length ∧ length ≤ 16 ∧ offset + length ≤ 2048 then
    match fieldAt e 7 1 with
    | 0 => some ⟨sector, offset, length, .fixed ((e.drop 0x10).take length)⟩
    | 1 =>
      if 1 ≤ fieldAt e 8 1 ∧ fieldAt e 8 1 ≤ 10 ∧ length = fieldAt e 8 1 then
        some ⟨sector, offset, length, .serial (fieldAt e 8 1)⟩
      else none
    | _ => none
  else none

/-- The entries counted in use, absent when one of them breaks a rule of its own. -/
def substsOfBytes (sectors : Nat) (b : List Byte) (i n : Nat) : Option (List Subst) :=
  match n with
  | 0 => some []
  | k + 1 =>
    match substOfBytes sectors (substBytes b i), substsOfBytes sectors b (i + 1) k with
    | some e, some rest => some (e :: rest)
    | _, _ => none

/-- Each entry after the first comes after its predecessor, without overlap (R5). -/
def substsOrdered : List Subst → Bool
  | e :: f :: rest =>
    (decide (e.sector < f.sector) || (decide (e.sector = f.sector) && decide (e.offset + e.length ≤ f.offset))) &&
      substsOrdered (f :: rest)
  | _ => true

/-- The width of a SERIAL entry. -/
def Subst.width (e : Subst) : Option Nat :=
  match e.kind with
  | .serial w => some w
  | .fixed _ => none

/-- The shared width of a list's SERIAL entries (R16), absent when it has none. -/
def serialWidth (l : List Subst) : Option Nat := l.findSome? Subst.width

/-- The serial limit of a width: 10^width − 1 (R16). -/
def serialLimit (w : Nat) : Nat := 10 ^ w - 1

/-- The list of check 6, absent when it breaks a rule of R5. -/
def substListOf (b : List Byte) : Option (List Subst) :=
  if fieldAt b 0x1B 1 ≤ 8 then
    match substsOfBytes (fieldAt b 0x08 4) b 0 (fieldAt b 0x1B 1) with
    | some l =>
      if substsOrdered l then
        match serialWidth l with
        | some w =>
          if (l.all fun e => match e.width with | some v => decide (v = w) | none => true) ∧
              fieldAt b 0x1C 4 ≤ serialLimit w then some l
          else none
        | none => some l
      else none
    | none => none
  else none

/-- Check 7 of ADMIT_JOB: the overlay of a job that prints lies on the label (R6). -/
def overlayLegal (b : List Byte) (l : List Subst) : Bool :=
  !(recPrint b && recOverlay b) ||
    match serialWidth l with
    | some w =>
      decide (fieldAt b 0x2E 2 + fieldAt b 0x2B 1 ≤ fieldAt b 0x28 2) &&
        decide (fieldAt b 0x2C 2 + w * fieldAt b 0x2A 1 ≤ 1344)
    | none => false

/-- The job record as the context keeps it: the tolerate mask is stored with HARD and MISCOMPARE clear (R2, R7). -/
def jobRecordOf (b : List Byte) (l : List Subst) : JobRecord where
  imageBase := fieldAt b 0x00 8
  imageSectors := fieldAt b 0x08 4
  mediaClass := fieldAt b 0x0E 1
  copies := fieldAt b 0x0C 2
  spindle := (spindleOf (fieldAt b 0x0F 1)).getD .a
  laneSet := BitVec.ofNat 16 (fieldAt b 0x10 2)
  speedCap := fieldAt b 0x12 2
  priority := fieldAt b 0x14 1
  verifyMode := (verifyModeOf (fieldAt b 0x15 1)).getD .off
  tolerate := if bitAt b 0x16 2 then 4 else 0
  gapLimit := fieldAt b 0x17 1
  maxGaps := fieldAt b 0x18 2
  print := recPrint b
  serialStart := fieldAt b 0x1C 4
  substs := l
  overlay :=
    if recPrint b && recOverlay b then some ⟨fieldAt b 0x2A 1, fieldAt b 0x2B 1, fieldAt b 0x2C 2, fieldAt b 0x2E 2⟩
    else none

/-! ### Serial digits (R16) -/

/-- A serial as `width` ASCII decimal digits, most significant first, zero-padded on the left (R16). -/
def serialDigits (width serial : Nat) : List Byte :=
  match width with
  | 0 => []
  | k + 1 => BitVec.ofNat 8 (0x30 + serial / 10 ^ k % 10) :: serialDigits k serial

/-- The digit values of a serial, most significant first (R154). -/
def serialDigitValues (width serial : Nat) : List Nat :=
  match width with
  | 0 => []
  | k + 1 => serial / 10 ^ k % 10 :: serialDigitValues k serial

end Sys2Proof.Machine
end

