-- ==== Sys2Proof/Machine/Port.lean ====
section
/-! DEFINITION. The Work Area Port (chapter 10): window writes, the header, the event log, the window check, the registers as
the host reads them, and the held sheets. -/

namespace Sys2Proof.Machine

/-! ### Window writes (R175, R184, R185) -/

/-- The offsets of the window's regions (R175). -/
def jobRegion : Nat := 0x2000
def laneRegion : Nat := 0x3000
def mapRegion : Nat := 0x4000
def transportRegion : Nat := 0x4200
def printerRegion : Nat := 0x4800
def logRegion : Nat := 0x5000
def rosterRegion : Nat := 0x10000
def partRegionEnd : Nat := 0x18000

/-- Bytes written into host memory at an address. -/
def hostWrite (address : Nat) (bs : List Byte) (s : State) : State :=
  { s with host := Memory.writeBytes s.host address bs }

/-- Bytes written at an offset of the window. -/
def windowWrite (offset : Nat) (bs : List Byte) (s : State) : State :=
  hostWrite (s.port.windowBase.toNat + offset) bs s

/-- The part writes the window only while it is not STOPPED (R175). -/
def windowOpen (s : State) : Bool := decide (s.port.part ≠ .stopped)

/-- The header written as it stands (R185). -/
def putHeader (s : State) : State := windowWrite 0 (headerBytes s.port) s

/-- The header written, in the part states that write the window. -/
def writeHeader (s : State) : State := if windowOpen s then putHeader s else s

/-- The update count advanced by 1 (R185). -/
def countUpdate (s : State) : State := { s with port.updateCount := s.port.updateCount.advance max32 }

/-- A region written by the part: its bytes, the update count, the header (R185). In STOPPED nothing is written (R175). -/
def report (offset : Nat) (bs : List Byte) (s : State) : State :=
  if windowOpen s then putHeader (countUpdate (windowWrite offset bs s)) else s

/-- A log entry (R184): its 32 bytes at position n mod 128, both counts, the header, and LOG if its class is enabled. In
STOPPED the entry is not made at all (R175). -/
def logEntry (kind : LogKind) (subject : Nat) (detail : List Byte) (s : State) : State :=
  if windowOpen s then
    let n := s.port.logCount.value
    let s1 := windowWrite (logRegion + 32 * (n % 128)) (logBytes n s.now kind subject detail) s
    let s2 := putHeader (countUpdate { s1 with port.logCount := s1.port.logCount.advance max32 })
    if s2.port.logEnables.getLsbD kind.classCode then setCause .log s2 else s2
  else s

/-- A change of part state, with the header written in the new state (R185). -/
def setPart (p : PartState) (s : State) : State := putHeader { s with port.part := p }

/-! ### The window check (2.6) and the window's validity (R175) -/

/-- The window is valid (R175). -/
def windowValid (p : Port) : Bool :=
  decide (p.windowBase.toNat % 65536 = 0) && decide (p.windowSize.toNat % 65536 = 0) &&
  decide (1048576 ≤ p.windowSize.toNat) && decide (p.windowSize.toNat ≤ 1099511627776) &&
  decide (p.windowBase.toNat + p.windowSize.toNat ≤ 18446744073709551616)

/-- An extent lies inside the window and outside the part-written region; an extent of zero bytes is judged by its first
address (2.6, R3). -/
def windowCheck (p : Port) (address length : Nat) : Bool :=
  decide (p.windowBase.toNat + partRegionEnd ≤ address) &&
  (if length = 0 then decide (address < p.windowBase.toNat + p.windowSize.toNat)
   else decide (address + length ≤ p.windowBase.toNat + p.windowSize.toNat))

/-! ### The registers (R176, R177, R181, R186, R187, R189, 11.2) -/

/-- IDENT (R187, 11.2). -/
def identValue : BitVec 64 :=
  (16 : BitVec 8) ++ (16 : BitVec 8) ++ Config.layoutVersion ++ Config.revision ++ Config.partCode ++ Config.vendorCode

/-- CONTROL as read (R177, 11.2). -/
def controlValue (p : Port) : BitVec 64 :=
  BitVec.setWidth 64 p.causeEnables <<< 8 ||| BitVec.setWidth 64 p.logEnables <<< 16 |||
  BitVec.ofNat 64 p.part.code <<< 32 ||| (if p.stopPending then BitVec.ofNat 64 1 <<< 34 else 0)

/-- The number of sheets held (R181). -/
def sheetsHeld (p : Port) : Nat :=
  match p.current, p.next with
  | none, _ => 0
  | some _, none => 1
  | some _, some _ => 2

/-- SHEET as read (R181, 11.2): bits 63:6 of the current sheet's address over the number of sheets held. -/
def sheetValue (p : Port) : BitVec 64 :=
  match p.current with
  | some c => (c.address >>> 6) <<< 6 ||| BitVec.ofNat 64 (sheetsHeld p)
  | none => 0

/-- CAUSE as read (R186, 11.2). -/
def causeValue (p : Port) : BitVec 64 := BitVec.setWidth 64 p.cause

/-- What a read of the register space returns (R189): a register at its offset read whole, 0 for any other access. -/
def registerRead (s : State) (offset width : Nat) : BitVec 64 :=
  if width = 8 then
    match offset with
    | 0x00 => identValue
    | 0x08 => controlValue s.port
    | 0x10 => s.port.windowBase
    | 0x18 => s.port.windowSize
    | 0x20 => sheetValue s.port
    | 0x28 => causeValue s.port
    | _ => 0
  else 0

/-- A write the part ignores (R189): another width than 64 bits, IDENT, CAUSE, or an offset of no register. -/
def writeIgnored (offset width : Nat) : Bool :=
  decide (width ≠ 8) || !([0x08, 0x10, 0x18, 0x20].contains offset)

/-- The enables take the written values at every CONTROL write (R177). -/
def loadEnables (causeEnables logEnables : BitVec 6) (s : State) : State :=
  { s with port.causeEnables := causeEnables, port.logEnables := logEnables }

/-! ### Held sheets (R181, R182) -/

/-- The extent of a sheet: a 64-byte header and 32 entry places of 128 bytes (10.3). -/
def sheetSize : Nat := 4160

/-- The address of an entry of a sheet (11.4). -/
def entryAddress (sheet : BitVec 64) (i : Nat) : Nat := sheet.toNat + 0x40 + 128 * i

/-- A sheet as it is first held. -/
def freshSheet (a : BitVec 64) : HeldSheet := ⟨a, none, 0⟩

/-- A write of a sheet's state or results: one that returns an error is not retried, and processing goes on (R182). Whether it takes
effect is a free value (assumption log 54). -/
def sheetWrite (address : Nat) (bs : List Byte) (s : State) : State :=
  (if Config.sheetWriteLands s.draws then hostWrite address bs s else s).draw

/-- Step 5 of sheet processing: the sheet result where it is not yet written, RETURNED, SHEET in CAUSE, and the next sheet
becomes current (R182). -/
def returnSheet (result : Option SheetResult) (s : State) : State :=
  match s.port.current with
  | none => s
  | some c =>
    let s1 := match result with
      | some r => sheetWrite (c.address.toNat + 2) (byte r.code) s
      | none => s
    let s2 := setCause .sheet (sheetWrite c.address.toNat (byte sheetReturned) s1)
    { s2 with port.current := s2.port.next.map freshSheet, port.next := none }

/-- Step 3: the header state TAKEN with sheet result OK; the entries are kept as read (R182). -/
def takeSheet (entries : List (List Byte)) (s : State) : State :=
  match s.port.current with
  | none => s
  | some c =>
    let s1 := sheetWrite c.address.toNat (byte sheetTaken) (sheetWrite (c.address.toNat + 2) (byte SheetResult.ok.code) s)
    { s1 with port.current := some { c with entries := some entries, nextEntry := 0 } }

/-- Entries 0..count − 1 of the bytes read behind a sheet's header. -/
def sheetEntries (count : Nat) (bs : List Byte) : List (List Byte) :=
  match count with
  | 0 => []
  | k + 1 => fitBytes 128 (bs.take 128) :: sheetEntries k (bs.drop 128)

/-- The processing of the current sheet, steps 1 to 3 (R182). -/
def processSheet (header entries : HostRead) (s : State) : State :=
  match s.port.current with
  | some ⟨_, none, _⟩ =>
    match header with
    | .error => returnSheet (some .badAddress) s
    | .data h =>
      let count := fieldAt h 1 1
      if fieldAt h 0 1 ≠ sheetFilled then returnSheet (some .badState) s
      else if count < 1 ∨ 32 < count then returnSheet (some .badCount) s
      else
        match entries with
        | .error => returnSheet (some .badAddress) s
        | .data bs => takeSheet (sheetEntries count bs) s
  | _ => s

/-- Step 4's end for one entry: its result code and result data are written, zeros where there is none; after the last entry
the sheet is returned (R182, R183). -/
def finishEntry (code : ResultCode) (data : List Byte) (s : State) : State :=
  match s.port.current with
  | some ⟨a, some es, i⟩ =>
    let s1 := sheetWrite (entryAddress a i + 0x40) (fitBytes 64 data) (sheetWrite (entryAddress a i + 1) (byte code.code) s)
    let s2 : State := { s1 with port.current := some ⟨a, some es, i + 1⟩ }
    if i + 1 < es.length then s2 else returnSheet none s2
  | _ => s

/-- A sheet address handed over (R181). -/
def handSheet (a : BitVec 64) (s : State) : State :=
  if sheetsHeld s.port = 2 then setCause .refused s
  else if a.toNat % 64 ≠ 0 ∨ ¬ windowCheck s.port a.toNat sheetSize then setCause .window s
  else
    match s.port.current with
    | none => { s with port.current := some (freshSheet a) }
    | some _ => { s with port.next := some a }

end Sys2Proof.Machine
end

