-- ==== Sys2Proof/Machine/Cache.lean ====
section
/-! DEFINITION. The Image Cache and the Fetch Engine (chapter 3): lookups, pins and unpins, the choice of a waiting request
by lead time, the choice of a frame, and the release of a job's frames. -/

namespace Sys2Proof.Machine

/-! ### Pages (2.2) -/

/-- The page of a sector. -/
def pageOf (sector : Nat) : Nat := sector / 64

/-- The page count of an image. -/
def pageCount (sectors : Nat) : Nat := (sectors + 63) / 64

/-- The image sectors in a page (R51). -/
def sectorsInPage (sectors page : Nat) : Nat := min 64 (sectors - 64 * page)

/-- The image sectors of a slot's job, 0 for a slot with no job. -/
def imageSectors (s : State) (j : SlotNo) : Nat :=
  match (s.job j).record with
  | some r => r.imageSectors
  | none => 0

/-- The image base of a slot's job. -/
def imageBase (s : State) (j : SlotNo) : Nat :=
  match (s.job j).record with
  | some r => r.imageBase
  | none => 0

/-! ### Frames (R43, R44) -/

/-- A frame that a lookup of the page finds (R43). -/
def frameMatches (j : SlotNo) (page : Nat) (f : Frame) : Bool :=
  decide (f.state ≠ .free) && !f.released && decide (f.slot = j) && decide (f.page = page)

/-- The lookup of a page (R43). -/
def lookup (s : State) (j : SlotNo) (page : Nat) : Option FrameNo := firstIndex s.frames (frameMatches j page)

/-- A frame that goes FREE: tag, attempt count and mark cleared; the last-use stamp stands (R44). R44 says so of a frame from RESIDENT or
FAILED; one from FILLING keeps it too (DESIGN CHOICE, assumption log 61). -/
def Frame.toFree (f : Frame) : Frame :=
  { f with state := .free, slot := 0, page := 0, pinCount := 0, attempts := 0, released := false }

/-- The byte address of a sector of a frame in the local DRAM. -/
def dramAddress (f : FrameNo) (sector : Nat) : Nat := 131072 * f.val + 2048 * (sector % 64)

/-- The 2,048 bytes of a sector of a frame. -/
def frameSector (s : State) (f : FrameNo) (sector : Nat) : List Byte := Memory.readBytes s.dram (dramAddress f sector) 2048

/-! ### Lead times (R57) -/

/-- The sectors at or after `sector` that lie in a page (a partial page counts only its image sectors). -/
def sectorsAhead (sectors sector page : Nat) : Nat :=
  (64 * page + sectorsInPage sectors page) - max sector (64 * page)

/-- The sectors ahead in the lane's pinned pages whose frames are RESIDENT. -/
def residentAhead (s : State) (n : LaneNo) : List LanePin → Nat
  | [] => 0
  | p :: rest =>
    (match p.frame with
     | some f =>
       if p.kind = .write ∧ (s.frame f).state = .resident then
         sectorsAhead (imageSectors s p.slot) (s.lane n).nextCopy p.page
       else 0
     | none => 0) + residentAhead s n rest

/-- The lead time of a writing lane in microseconds (R57). -/
def leadTime (s : State) (n : LaneNo) : Nat :=
  ((s.lane n).fifo.length + residentAhead s n (s.lane n).pins) * 1000000 / orZero (s.lane n).rate

/-! ### The choice of a request (R56, R58) -/

/-- A lane holds a pin of a kind on a page. -/
def holdsPin (l : Lane) (kind : PinKind) (j : SlotNo) (page : Nat) : Bool :=
  l.pins.any fun p => decide (p.kind = kind) && decide (p.slot = j) && decide (p.page = page)

/-- The lanes of a request that hold a write pin on it; none makes it class VERIFY (R56). -/
def writersOf (s : State) (r : FetchReq) : List LaneNo := r.lanes.filter fun n => holdsPin (s.lane n) .write r.slot r.page

/-- The leading lane of some lanes: the smallest lead time, the lower number among equals (R57). -/
def leadingLane (s : State) : List LaneNo → Option LaneNo
  | [] => none
  | n :: rest =>
    match leadingLane s rest with
    | none => some n
    | some m => if leadTime s n < leadTime s m ∨ (leadTime s n = leadTime s m ∧ n ≤ m) then some n else some m

/-- The rank of a request, compared in order: class (WRITE 0, VERIFY 1); for WRITE the lead time, the leading lane and the
page; for VERIFY the arrival position, the slot and the page (R56, R58). -/
def requestRank (s : State) (r : FetchReq) : List Nat :=
  match leadingLane s (writersOf s r) with
  | some n => [0, leadTime s n, n.val, r.page, r.slot.val]
  | none => [1, r.arrival, r.slot.val, r.page, 0]

/-- The first of two ranks, item by item. -/
def rankLe : List Nat → List Nat → Bool
  | a :: as, b :: bs => decide (a < b) || (decide (a = b) && rankLe as bs)
  | [], _ => true
  | _ :: _, [] => false

/-- The request FE starts (R58). -/
def chooseRequest (s : State) : List FetchReq → Option FetchReq
  | [] => none
  | r :: rest =>
    match chooseRequest s rest with
    | none => some r
    | some b => if rankLe (requestRank s r) (requestRank s b) then some r else some b

/-! ### The choice of a frame (R50) -/

/-- A RESIDENT frame with no pin. -/
def Frame.idle (f : Frame) : Bool := decide (f.state = .resident) && decide (f.pinCount = 0)

/-- The oldest last-use stamp among the RESIDENT frames with no pin. -/
def oldestIdle : List Frame → Option Nat
  | [] => none
  | f :: rest =>
    match oldestIdle rest with
    | none => if f.idle then some f.lastUse else none
    | some u => if f.idle then some (min f.lastUse u) else some u

/-- The frame a fill takes: the lowest FREE; else the RESIDENT with pin count 0 used longest ago, the lower number among
equals; else the lowest FAILED (R50). -/
def chooseFrame (s : State) : Option FrameNo :=
  match firstIndex s.frames (fun f => decide (f.state = .free)) with
  | some f => some f
  | none =>
    match oldestIdle s.frames.toList with
    | some u => firstIndex s.frames (fun f => f.idle && decide (f.lastUse = u))
    | none => firstIndex s.frames (fun f => decide (f.state = .failed))

/-! ### Starting a fill (R50, R51, R58) -/

/-- The lowest free fill slot. -/
def freeFillSlot (s : State) : Option (Fin 8) := firstIndex s.fetch.fills (·.isNone)

/-- The number of reads of an attempt: ⌈k / 2⌉ (R51). -/
def readCount (sectors : Nat) : Nat := (sectors + 1) / 2

/-- The bytes of read i of a page of k sectors: 4,096, or 2,048 for the last of an odd page (R51). -/
def readLength (sectors i : Nat) : Nat := if 2 * i + 1 = sectors then 2048 else 4096

/-- The reads of an attempt, all issued at once (R51). -/
def freshReads (sectors time : Nat) : List FillRead := List.replicate (readCount sectors) ⟨false, time⟩

/-- The pins of a lane on a waiting page now stand on a frame. -/
def placePins (j : SlotNo) (page : Nat) (f : FrameNo) (l : Lane) : Lane :=
  { l with pins := l.pins.map fun p => if p.slot = j ∧ p.page = page then { p with frame := some f } else p }

/-- A fill started for a request in a fill slot and a frame (R50). -/
def startFill (r : FetchReq) (slot : Fin 8) (f : FrameNo) (s : State) : State :=
  let sectors := sectorsInPage (imageSectors s r.slot) r.page
  let fill : Fill := ⟨s.fetch.nextFill, f, imageBase s r.slot + 131072 * r.page, sectors, freshReads sectors s.now⟩
  let s1 := s.setFrame f { s.frame f with state := .filling, slot := r.slot, page := r.page, pinCount := r.lanes.length, attempts := 0, released := false }
  let s2 := r.lanes.foldl (fun t n => t.updLane n (placePins r.slot r.page f)) s1
  { s2 with fetch := { s2.fetch with
      queue := s2.fetch.queue.filter fun q => decide (q ≠ r)
      fills := s2.fetch.fills.set slot.val (some fill) slot.isLt
      nextFill := s2.fetch.nextFill + 1 } }

/-- FE starts one request, where a slot is free and a request waits (R58). -/
def feStart (s : State) : State :=
  match freeFillSlot s, chooseRequest s s.fetch.queue, chooseFrame s with
  | some slot, some r, some f => startFill r slot f s
  | _, _, _ => s

/-! ### Pins (R47) -/

/-- What a pin finds (R47): a page to use at once, a page to wait for, or a FAILED page, of which no pin is taken. -/
inductive PinFinds where
  | ready
  | waits
  | failed
  deriving DecidableEq, Repr

/-- What a pin of a page would find (R47). -/
def pinFinds (s : State) (j : SlotNo) (page : Nat) : PinFinds :=
  match lookup s j page with
  | some f =>
    match (s.frame f).state with
    | .resident => .ready
    | .failed => .failed
    | _ => .waits
  | none => .waits

/-- A pin added to a lane. -/
def addPin (n : LaneNo) (p : LanePin) (s : State) : State := s.updLane n fun l => { l with pins := l.pins ++ [p] }

/-- A lane joins the pinning lanes of the request for a page. -/
def joinRequest (j : SlotNo) (page : Nat) (n : LaneNo) (q : FetchReq) : FetchReq :=
  if q.slot = j ∧ q.page = page then { q with lanes := q.lanes ++ [n] } else q

/-- A request waits for a page. -/
def requested (s : State) (j : SlotNo) (page : Nat) : Bool :=
  s.fetch.queue.any fun q => decide (q.slot = j) && decide (q.page = page)

/-- A new request enters the fetch queue at the next arrival position, and is started at once where a fill slot is free
(R56, R58). -/
def queueRequest (j : SlotNo) (page : Nat) (n : LaneNo) (s : State) : State :=
  feStart { s with fetch := { s.fetch with
    queue := s.fetch.queue ++ [⟨j, page, [n], s.fetch.arrivals⟩]
    arrivals := satInc max64 s.fetch.arrivals } }

/-- A pin of a page by a lane (R47). A FAILED page is not pinned. -/
def pinPage (n : LaneNo) (kind : PinKind) (j : SlotNo) (page : Nat) (s : State) : State :=
  match lookup s j page with
  | some f =>
    match (s.frame f).state with
    | .resident =>
      addPin n ⟨kind, j, page, some f⟩
        (s.setFrame f { s.frame f with pinCount := (s.frame f).pinCount + 1, lastUse := s.now })
    | .filling =>
      addPin n ⟨kind, j, page, some f⟩ (s.setFrame f { s.frame f with pinCount := (s.frame f).pinCount + 1 })
    | _ => s
  | none =>
    if requested s j page then
      addPin n ⟨kind, j, page, none⟩
        { s with fetch := { s.fetch with queue := s.fetch.queue.map (joinRequest j page n) } }
    else queueRequest j page n (addPin n ⟨kind, j, page, none⟩ s)

/-! ### Unpins (R48) -/

/-- A frame with one pin fewer: a RESIDENT frame takes the present time and goes FREE if it was released (R48). -/
def Frame.unpinned (f : Frame) (time : Nat) : Frame :=
  match f.state with
  | .resident =>
    let g := { f with pinCount := f.pinCount - 1, lastUse := time }
    if g.pinCount = 0 ∧ g.released then g.toFree else g
  | _ => { f with pinCount := f.pinCount - 1 }

/-- A lane leaves the request for a page; a request with no pinning lane left is removed (R48). -/
def leaveRequests (j : SlotNo) (page : Nat) (n : LaneNo) (qs : List FetchReq) : List FetchReq :=
  (qs.map fun q =>
    if q.slot = j ∧ q.page = page then { q with lanes := q.lanes.filter fun m => decide (m ≠ n) } else q).filter
    fun q => !q.lanes.isEmpty

/-- A pin given up where it stands: on a frame, or in a waiting request (R48). -/
def dropPin (n : LaneNo) (p : LanePin) (s : State) : State :=
  let s1 := s.updLane n fun l => { l with pins := l.pins.filter fun q => decide (q ≠ p) }
  match p.frame with
  | some f => s1.setFrame f ((s1.frame f).unpinned s1.now)
  | none => { s1 with fetch := { s1.fetch with queue := leaveRequests p.slot p.page n s1.fetch.queue } }

/-- The pins of one kind in ascending page order. -/
def pinsOf (l : Lane) (kind : PinKind) : List LanePin :=
  sortBy (fun a b => decide (a.page < b.page)) (l.pins.filter fun p => decide (p.kind = kind))

/-- All a lane's pins of one kind given up, in ascending page order (R45, R46). -/
def unpinKind (n : LaneNo) (kind : PinKind) (s : State) : State :=
  (pinsOf (s.lane n) kind).foldl (fun t p => dropPin n p t) s

/-- A lane's write pin on one page given up (R45). -/
def unpinWrite (n : LaneNo) (page : Nat) (s : State) : State :=
  ((pinsOf (s.lane n) .write).filter fun p => decide (p.page = page)).foldl (fun t p => dropPin n p t) s

/-! ### Releases (R59, R60) -/

/-- A frame at the release of its job's frames (R59). -/
def Frame.atRelease (j : SlotNo) (f : Frame) : Frame :=
  if f.slot = j ∧ ¬ f.released then
    match f.state with
    | .free => f
    | .filling => { f with released := true }
    | .failed => f.toFree
    | .resident => if f.pinCount = 0 then f.toFree else { f with released := true }
  else f

/-- A job's frames released, at CLEAR_JOB and at ABORTED (R59). -/
def releaseFrames (j : SlotNo) (s : State) : State := { s with frames := mapAll (Frame.atRelease j) s.frames }

/-- A frame at RESUME_JOB (R60). -/
def Frame.atResume (j : SlotNo) (f : Frame) : Frame :=
  if f.slot = j ∧ ¬ f.released ∧ f.state = .failed then f.toFree else f

/-- A job's FAILED frames freed, at RESUME_JOB (R60). -/
def freeFailed (j : SlotNo) (s : State) : State := { s with frames := mapAll (Frame.atResume j) s.frames }

/-! ### The end of a fill (R52 to R54, R59) -/

/-- The fill slot and the fill of a number. -/
def findFill (s : State) (number : Nat) : Option (Fin 8) :=
  firstIndex s.fetch.fills fun f => match f with | some x => decide (x.number = number) | none => false

/-- A fill slot freed. -/
def clearFill (slot : Fin 8) (s : State) : State :=
  { s with fetch := { s.fetch with fills := s.fetch.fills.set slot.val none slot.isLt } }

/-- A fill changed. -/
def setFill (slot : Fin 8) (f : Fill) (s : State) : State :=
  { s with fetch := { s.fetch with fills := s.fetch.fills.set slot.val (some f) slot.isLt } }

/-- The pin a lane holds on a frame. -/
def pinOn (l : Lane) (f : FrameNo) : Option LanePin := l.pins.find? fun p => decide (p.frame = some f)

/-- The lanes that pin a frame, in ascending order. -/
def lanesOn (s : State) (f : FrameNo) : List LaneNo := allLanes.filter fun n => (pinOn (s.lane n) f).isSome

/-- Every lane's pin on a frame that goes FREE stands on no frame any more (R59; assumption log 21). -/
def looseFrame (f : FrameNo) (s : State) : State :=
  { s with lanes := mapAll (fun l => { l with pins := l.pins.map fun p => if p.frame = some f then { p with frame := none } else p }) s.lanes }

end Sys2Proof.Machine
end

