-- ==== Sys2Proof/Machine/Queue.lean ====
section
/-! DEFINITION. The Disc Transport's station map, transport status and task queue (R124 to R128, R130), which every block that
asks for the arm uses. -/

namespace Sys2Proof.Machine

/-! ### The station map (R124) -/

/-- A station's entry written. -/
def writeEntry (k : StationNo) (s : State) : State := report (mapRegion + 16 * k.val) (entryBytes (s.entry k)) s

/-- A station's entry changed, and written if any item of it changed (R124). -/
def changeEntry (k : StationNo) (f : StationEntry → StationEntry) (s : State) : State :=
  if f (s.entry k) = s.entry k then s else writeEntry k (s.setEntry k (f (s.entry k)))

/-- A tray's occupancy and disc index set (R124). -/
def setTray (k : StationNo) (o : Occupancy) (i : Option DiscNo) (s : State) : State :=
  changeEntry k (fun e => { e with occupancy := o, disc := i }) s

/-- A station's claim set or cleared (R127). -/
def setClaim (k : StationNo) (b : Bool) (s : State) : State := changeEntry k (fun e => { e with claim := b }) s

/-- A spindle's occupancy follows its count and flag (R124). -/
def spindleOccupancy (k : StationNo) (e : StationEntry) : Occupancy :=
  if k.val < 2 then (if e.empty then .empty else if 0 < e.count then .occupied else .unknown)
  else if e.count = 0 then .empty else .occupied

/-- A spindle's entry changed, its occupancy following (R124, R125). -/
def changeSpindle (k : StationNo) (f : StationEntry → StationEntry) (s : State) : State :=
  changeEntry k (fun e => { f e with occupancy := spindleOccupancy k (f e) }) s

/-! ### The transport status (R130) -/

/-- The transport's state changed, and the status written if an item it shows changed (R130). -/
def changeArm (f : Transport → Transport) (s : State) : State :=
  let s1 := { s with transport := f s.transport }
  if transportBlock (f s.transport) = transportBlock s.transport then s1
  else report transportRegion (transportBlock s1.transport) s1

/-! ### The task queue (R128) -/

/-- A task stored in its requester's slot. -/
def putTask (t : Task) (s : State) : State :=
  changeArm (fun tr => { tr with queue := tr.queue.set t.requester.val (some t) t.requester.isLt }) s

/-- A task queued at the next queue position; the arm tests its selection (R128, R129). -/
def queueTask (kind : TaskKind) (r : RequesterNo) (source dest : StationNo) (s : State) : State :=
  let p := s.transport.positions
  (putTask ⟨kind, r, source, dest, p, 0⟩ { s with transport := { s.transport with positions := satInc max64 p } }).emit .select

/-- A requester's slot emptied; the queue may have lost its last task (R128, R178). -/
def withdrawTask (r : RequesterNo) (s : State) : State :=
  (changeArm (fun tr => { tr with queue := tr.queue.set r.val none r.isLt }) s).emit .stopTest

/-- The requester has a queued task: a withdrawal would be answered "withdrawn" (R128). -/
def hasQueued (s : State) (r : RequesterNo) : Bool := (s.queued r).isSome

/-- The requester's task is the current task: a withdrawal is answered "begun" (R128). -/
def hasBegun (s : State) (r : RequesterNo) : Bool :=
  match s.transport.current with
  | some c => decide (c.task.requester = r)
  | none => false

/-- The task queue is empty. -/
def queueEmpty (s : State) : Bool := s.transport.queue.toList.all (·.isNone)

end Sys2Proof.Machine
end

