-- ==== Sys2Proof/Machine/LaneBase.lean ====
section
/-! DEFINITION. What every rule about a lane uses: its status block and trail (R64), its messages (R95, R96), its tray commands
(R102 to R104), its rest state (R63, R94, R121), its entry to FAULTED (R86, R106) and its recovery query (R87). -/

namespace Sys2Proof.Machine

/-! ### Status block and trail (R64) -/

/-- The lane status block written (R64). -/
def writeLane (n : LaneNo) (s : State) : State :=
  report (laneRegion + 128 * n.val) (laneBlock (s.lane n) (s.link n).up) s

/-- The eight latest entries of a trail (R64). -/
def lastEight (t : List (LaneState × Nat)) : List (LaneState × Nat) := t.drop (t.length - 8)

/-- A lane in a new state, with its trail entry (R64). -/
def Lane.enter (st : LaneState) (time : Nat) (l : Lane) : Lane :=
  { l with state := st, trail := lastEight (l.trail ++ [(st, time)]) }

/-- A change of lane state: the trail entry and the block (R64). A lane entering or leaving IDLE may change a NO_LANE flag
(R21). -/
def enterLane (n : LaneNo) (st : LaneState) (s : State) : State :=
  if (s.lane n).state = st then s else (writeLane n (s.updLane n (Lane.enter st s.now))).emit .stalls

/-- A stray drive message: counted, and the block written, at a count that stands at its maximum too (R100). -/
def strayMessage (n : LaneNo) (s : State) : State :=
  writeLane n (s.updLane n fun l => { l with stray := satInc max16 l.stray })

/-! ### Messages (R95, R96) -/

/-- A message handed to the port, which is taken only while the port is UP (R95, R96). -/
def sendMsg (n : LaneNo) (m : LaneMsg) (s : State) : State :=
  if (s.link n).up then s.setLink n { s.link n with outbound := (s.link n).outbound ++ [m] } else s

/-- A wait of the lane changed. -/
def setWaits (n : LaneNo) (f : Waits → Waits) (s : State) : State := s.updLane n fun l => { l with waits := f l.waits }

/-- A tray command sent, with its wait of 8,000 ms (R96, R102). -/
def sendTray (n : LaneNo) (c : TrayCmd) (p : TrayPurpose) (s : State) : State :=
  if (s.link n).up then setWaits n (fun w => { w with tray := some ⟨c, p, s.now⟩ }) (sendMsg n (.tray c) s) else s

/-- The tray wait closed by its answer or its timeout. -/
def endTrayWait (n : LaneNo) (s : State) : State := setWaits n (fun w => { w with tray := none }) s

/-! ### FAULTED (R86, R87, R106) -/

/-- A LANE_FAULT entry: the cause and, for a tray cause, the command that failed and the disc index held (R106). -/
def logLaneFault (n : LaneNo) (cause : LaneCause) (c : Option TrayCmd) (held : Option DiscRef) (s : State) : State :=
  logEntry .laneFault n.val
    (match c with
     | some x => byte cause.code ++ byte x.code ++ byte (match held with | some d => d.index.val | none => 0)
     | none => byte cause.code) s

/-- A lane enters FAULTED and logs its cause, with the disc it held; an orphan is the lane's no longer, since recovery finds it again
(R87). The inventory of a lane that was UNKNOWN is complete (R88). -/
def faultHeld (n : LaneNo) (cause : LaneCause) (c : Option TrayCmd) (held : Option DiscRef) (s : State) : State :=
  (logLaneFault n cause c held
    (enterLane n .faulted (s.updLane n fun l => { l with orphan := false, restPending := false }))).emit .sweepTest

/-- A lane enters FAULTED with the disc it holds, if any, and logs its cause. -/
def faultLane (n : LaneNo) (cause : LaneCause) (c : Option TrayCmd) (s : State) : State := faultHeld n cause c (s.lane n).disc s

/-- The lane's disc given up by its record. -/
def clearDisc (n : LaneNo) (s : State) : State := s.updLane n fun l => { l with disc := none, refuse := none }

/-- A lane enters FAULTED holding no disc, which its block shows (R64), and logs its cause: LANE_FAULT gives the disc it held at the
failure (R106). -/
def faultEmpty (n : LaneNo) (cause : LaneCause) (c : Option TrayCmd) (s : State) : State :=
  faultHeld n cause c (s.lane n).disc (clearDisc n s)

/-- Recovery begins by sending TRAY QUERY, where the link is UP and no tray command is outstanding (R87, R96); a lane that had waited
for a discarded compare at its rest state waits there no more (R121). Where an earlier tray command is still unanswered nothing is sent,
and the request is not kept for later (R105 does not say; assumption log 55). -/
def beginRecovery (n : LaneNo) (s : State) : State :=
  if (s.lane n).waits.tray.isSome ∨ (s.link n).up = false then s
  else sendTray n .query .recovery (s.updLane n fun l => { l with restPending := false })

/-! ### The rest state (R63, R94, R121) -/

/-- The lane holds a compare unit that carries the discard mark (R120). -/
def holdsDiscarded (s : State) (n : LaneNo) : Bool :=
  match (s.lane n).verify.unit with
  | some u => (s.unit u).discard && decide ((s.unit u).owner = some n)
  | none => false

/-- A lane at its rest state holds nothing (R63). -/
def Lane.holdNothing (l : Lane) : Lane :=
  { l with disc := none, inTray := false, orphan := false, refuse := none, restPending := false }

/-- The lane reaches the point of entering its rest state: it waits for a discarded compare (R121); IDLE when enabled with its
link UP, FAULTED when enabled with its link DOWN (R94), OFFLINE when not enabled (R63). Entering IDLE brings a dispatch pass. -/
def laneRest (n : LaneNo) (s : State) : State :=
  let s1 := s.updLane n Lane.holdNothing
  if holdsDiscarded s1 n then s1.updLane n fun l => { l with restPending := true }
  else if (s1.lane n).enabled then
    if (s1.link n).up then ((enterLane n .idle s1).emit .dispatch).emit .sweepTest
    else faultLane n .linkDown none s1
  else (enterLane n .offline s1).emit .sweepTest

/-! ### The ends of a reservation at the lane (R65, R66) -/

/-- A reservation ends without a disc for the lane: its rest state, or FAULTED, with recovery at once where its link is UP
(R65, R86, R87). -/
def endReservation (n : LaneNo) (s : State) : State :=
  if (s.lane n).refuse = some .driveFault then
    let s1 := faultLane n .linkDown none (s.updLane n Lane.holdNothing)
    if (s1.link n).up then beginRecovery n s1 else s1
  else laneRest n s

/-- The end of a load withdrawn at the tray: the disc is cleared; rest state, or FAULTED for an occupied tray (R66, R104,
R139). -/
def endWithdrawn (n : LaneNo) (thenFaulted : Bool) (s : State) : State :=
  if thenFaulted then (enterLane n .faulted (s.updLane n Lane.holdNothing)).emit .sweepTest else laneRest n s

/-- The Disc Transport tells the lane that the load of a disc is withdrawn (R66, R137). A lane that has meanwhile given the
disc up takes no notice. -/
def laneWithdrawn (n : LaneNo) (i : DiscNo) (thenFaulted : Bool) (s : State) : State :=
  match (s.lane n).disc with
  | some d =>
    if d.index = i then
      match (s.lane n).state with
      | .faulted => clearDisc n s
      | .loadWait => endReservation n s
      | .trayLoad =>
        match (s.lane n).waits.tray with
        | some w => setWaits n (fun x => { x with tray := some { w with purpose := .withdrawOpen thenFaulted } }) s
        | none => sendTray n .close (.withdrawClose thenFaulted) s
      | _ => s
    else s
  | none => s

/-! ### The arm's requests at the tray (R66, R80, R103, R104) -/

/-- The arm asks the lane to open its tray for a load or an unload (R66, R80); with its link DOWN the tray is not offered (R134). A TRAY
OPEN still unanswered serves the request (R96). -/
def laneAskOpen (n : LaneNo) (load : Bool) (s : State) : State :=
  let l := s.lane n
  let asked := if load then decide (l.state = .loadWait) || decide (l.state = .trayLoad)
    else decide (l.state = .unloadWait) || decide (l.state = .trayUnload)
  if asked ∧ (s.link n).up then
    let s1 := enterLane n (if load then .trayLoad else .trayUnload) s
    if l.waits.tray.isSome then s1 else sendTray n .opened (if load then .loadOpen else .unloadOpen) s1
  else s

/-- The arm tells the lane to close its tray: after a placement, or after a grip, at which the lane clears its disc (R66, R80,
R104). -/
def laneToldClose (n : LaneNo) (s : State) : State :=
  match (s.lane n).state with
  | .trayLoad => sendTray n .close .loadClose s
  | .trayUnload => sendTray n .close .unloadClose (s.updLane n fun l => { l with disc := none, orphan := false, inTray := false })
  | _ => s

/-! ### Unloads (R80) -/

/-- A slot's job prints. -/
def jobPrints (s : State) (j : SlotNo) : Bool :=
  match (s.job j).record with
  | some r => r.print
  | none => false

/-- The destination of a disc by its outcome: the printer tray, the output spindle or the reject spindle (R80). -/
def discDest (s : State) (d : DiscRef) : StationNo :=
  match s.disc d.index with
  | some r => if r.outcome = .passed then (if jobPrints s d.slot then stationPrinter else stationOutput) else stationReject
  | none => stationReject

/-- The destination of a lane's unload; an orphan goes to the reject spindle (R80). -/
def unloadDest (s : State) (n : LaneNo) : StationNo :=
  match (s.lane n).disc with
  | some d => discDest s d
  | none => stationReject

/-- The lane asks for UNLOAD(lane) and enters UNLOAD_WAIT (R80). -/
def requestUnload (n : LaneNo) (s : State) : State :=
  enterLane n .unloadWait (queueTask .unloadLane (requesterOf n) (trayOf n) (unloadDest s n) s)

end Sys2Proof.Machine
end

