-- ==== Sys2Proof/Machine/Roster.lean ====
section
/-! DEFINITION. The Disc Roster's record writes, allocation and freeing (R27 to R37). -/

namespace Sys2Proof.Machine

/-- The record at an index written whole to the window (R34). -/
def writeRecord (i : DiscNo) (s : State) : State := report (rosterRegion + 128 * i.val) (rosterBytes (s.disc i)) s

/-- A report about a disc: the record changes and is written once if anything of it changed (R34). -/
def updDisc (i : DiscNo) (f : DiscRecord → DiscRecord) (s : State) : State :=
  match s.disc i with
  | some r => if f r = r then s else writeRecord i (s.setDisc i (some (f r)))
  | none => s

/-- The contents of a freshly allocated record (R32). -/
def freshRecord (j : SlotNo) (n : LaneNo) : DiscRecord where
  outcome := .reserved
  location := .nowhere
  slot := BitVec.ofNat 8 j.val
  laneUsed := BitVec.ofNat 8 n.val
  doubleFeed := false
  printed := false
  serial := none
  reason := none
  startRate := none
  totals := none
  verify := none
  raster := none
  pickedAt := none
  writeStart := none
  writeEnd := none
  verifyEnd := none
  printedAt := none
  droppedAt := none

/-- The lowest FREE index (R32). -/
def lowestFree (s : State) : Option DiscNo := firstIndex s.roster.map (·.isNone)

/-- A record allocated at an index, RESERVED for a job and a lane, and written (R32). The count of FREE records may have
reached 0, which ROSTER_FULL shows (R21). -/
def allocRecord (i : DiscNo) (j : SlotNo) (n : LaneNo) (s : State) : State :=
  (writeRecord i (s.setDisc i (some (freshRecord j n)))).emit .stalls

/-- A record freed and written as FREE; the freeing brings a dispatch pass (R33, R19). -/
def freeRecord (i : DiscNo) (s : State) : State :=
  ((writeRecord i (s.setDisc i none)).emit .dispatch).emit .stalls

/-- A timestamp is set at the first occurrence of its event (R28). -/
def stampOnce (old : Option Nat) (time : Nat) : Option Nat := some (old.getD time)

/-- A record can be released (R38). -/
def releasable (r : DiscRecord) : Bool :=
  (decide (r.outcome = .good) || decide (r.outcome = .rejected)) &&
    (decide (r.location = .output) || decide (r.location = .reject))

/-- What the start-up clean does with a record (R40): the map entry, and whether the record is rewritten. -/
inductive CleanAction where
  | leaveFree
  | keep (r : DiscRecord)
  | rewrite (r : DiscRecord)
  | rewriteReset (r : DiscRecord)
  | rewriteFree
  deriving DecidableEq, Repr

/-- The judgement of a record read by the clean, by its outcome and, for REJECTED, its location (R40, R42). -/
def cleanAction (b : List Byte) : CleanAction :=
  match fieldAt b 0 1 with
  | 0 => .leaveFree
  | v =>
    match outcomeOf v with
    | some .good => .keep (discOfBytes .good b)
    | some .rejected =>
      if (discOfBytes .rejected b).location = .reject then .keep (discOfBytes .rejected b)
      else .rewrite { discOfBytes .rejected b with location := .nowhere }
    | some _ => .rewriteReset { discOfBytes .rejected b with location := .nowhere, reason := some .reset }
    | none => .rewriteFree

end Sys2Proof.Machine
end

