-- ==== Sys2Proof/Machine/Jobs.lean ====
section
/-! DEFINITION. The Job Controller (chapter 1): the status blocks, the counters and what they move (R8, R12 to R17, R23), holds
and cancellations (R9, R20), the pick reports (R13), dispatch (R18 to R20) and the stall flags (R21). -/

namespace Sys2Proof.Machine

/-! ### Status blocks (R1) -/

/-- A job status block written. -/
def writeJob (j : SlotNo) (s : State) : State := report (jobRegion + 256 * j.val) (jobBlock (s.job j)) s

/-- A job context changed, and its block written if anything it shows changed (R1). -/
def changeJob (j : SlotNo) (f : Job → Job) (s : State) : State :=
  let s1 := s.setJob j (f (s.job j))
  if jobBlock (f (s.job j)) = jobBlock (s.job j) then s1 else writeJob j s1

/-- A job moved to a state other than RUNNING: its stall flags are clear there (R21). -/
def Job.leaveRunning (st : JobState) (j : Job) : Job := { j with state := st, stall := StallFlags.clear }

/-! ### States by counts (R8, R23) -/

/-- What the counts of a job make of its state (R8, R23). -/
def Job.byCounts (j : Job) : JobState :=
  match j.state with
  | .running => if j.copies ≤ j.sum then .draining else .running
  | .draining => if j.copies ≤ j.good then .done else if j.sum < j.copies then .running else .draining
  | .held => if j.copies ≤ j.good then .done else .held
  | .aborting => if j.inFlight = 0 ∧ j.reserved = 0 then .aborted else .aborting
  | st => st

/-- The test JC makes each time a counter changes (R8, R23), with the log entries, the dispatch pass of a return to RUNNING and
the release of an aborted job's frames (R59). -/
def testCounts (j : SlotNo) (s : State) : State :=
  let st := (s.job j).byCounts
  if st = (s.job j).state then s.emit .stalls
  else
    match st with
    | .running => ((changeJob j (fun x => { x with state := .running }) s).emit .dispatch).emit .stalls
    | .done => logEntry .jobDone j.val [] (changeJob j (fun x => { x.leaveRunning .done with hold := none }) s)
    | .aborted => releaseFrames j (logEntry .jobAborted j.val [] (changeJob j (Job.leaveRunning .aborted) s))
    | other => changeJob j (Job.leaveRunning other) s

/-! ### Serials (R16, R17) -/

/-- The serial limit of a slot's job, absent for a job with no SERIAL entry (R16). -/
def jobLimit (j : Job) : Option Nat :=
  match j.record with
  | some r => (serialWidth r.substs).map serialLimit
  | none => none

/-- The job's next serial exceeds its serial limit (R11, R17). -/
def serialSpent (j : Job) : Bool :=
  match jobLimit j, j.nextSerial with
  | some lim, some n => decide (lim < n)
  | _, _ => false

/-- The next serial and the reservations stay within the limit, with an offset (R13, R18). -/
def serialRoom (j : Job) (reserved : Nat) : Bool :=
  match jobLimit j, j.nextSerial with
  | some lim, some n => decide (n + reserved ≤ lim)
  | _, _ => true

/-! ### Finish events (R14) -/

/-- The job slot of a record, where it names one. -/
def recordSlot (r : DiscRecord) : Option SlotNo := toIndex 8 r.slot.toNat

/-- The lane used of a record, where it names one. -/
def recordLane (r : DiscRecord) : Option LaneNo := toIndex 16 r.laneUsed.toNat

/-- The lane used counts a disc placed in its tray (R81): a PASSED disc, or one whose location is the lane. -/
def countsAtLane (r : DiscRecord) : Bool :=
  decide (r.outcome = .passed) || (match r.location with | .lane _ => true | _ => false)

/-- One more in a lane's discs rejected counter (R81). -/
def Lane.countRejected (l : Lane) : Lane :=
  { l with counters := { l.counters with discsRejected := l.counters.discsRejected.advance max16 } }

/-- The discs rejected counter of the lane used (R81); a disc that a FAULT rejects in TRAY_LOAD waits for the CLOSED answer (R101). -/
def countLaneReject (i : DiscNo) (r : DiscRecord) (s : State) : State :=
  match recordLane r with
  | some n => if countsAtLane r ∧ (s.lane n).uncounted ≠ some i then s.updLane n Lane.countRejected else s
  | none => s

/-- The counters of a disc decided REJECTED: rejected + 1, in_flight − 1 (R14). -/
def Job.countReject (j : Job) : Job := { j with rejected := satInc max32 j.rejected, inFlight := j.inFlight - 1 }

/-- A disc decided REJECTED (R14, R29, R31): the record with its reason and what else the report sets, the lane used's counter,
the job's counters, DISC_REJECTED with the reason and a drive's FAULT code, and R8. Only a PENDING or PASSED record is decided:
one already REJECTED keeps its first reason, and a GOOD one is not rejected (R31). -/
def decideRejected (i : DiscNo) (why : RejectReason) (code : Nat) (f : DiscRecord → DiscRecord) (s : State) : State :=
  match s.disc i with
  | some r =>
    if r.outcome = .pending ∨ r.outcome = .passed then
      let s1 := countLaneReject i r (updDisc i (fun x => { f x with outcome := .rejected, reason := some why }) s)
      match recordSlot r with
      | some j =>
        testCounts j
          (logEntry .discRejected i.val (byte why.code ++ half code) (changeJob j Job.countReject s1))
      | none => logEntry .discRejected i.val (byte why.code ++ half code) s1
    else s
  | none => s

/-! ### Cancellations and holds (R9, R20) -/

/-- A reservation ends without a disc (R13, R20): reserved − 1, the record freed, the lane at rest, R8. -/
def cancelReservation (n : LaneNo) (s : State) : State :=
  match (s.lane n).disc with
  | some d =>
    testCounts d.slot
      (endReservation n
        (freeRecord d.index (changeJob d.slot (fun x => { x with reserved := x.reserved - 1 }) s)))
  | none => s

/-- A lane's queued LOAD withdrawn before the arm has begun it, and its reservation cancelled (R9, R20). -/
def withdrawLoad (n : LaneNo) (s : State) : State :=
  match s.queued (requesterOf n) with
  | some t => if t.kind = .load then cancelReservation n (withdrawTask (requesterOf n) s) else s
  | none => s

/-- Each of a job's queued LOADs withdrawn (R9, R22). -/
def withdrawLoads (j : SlotNo) (s : State) : State :=
  allLanes.foldl (fun t n =>
    match (t.lane n).disc with
    | some d => if d.slot = j then withdrawLoad n t else t
    | none => t) s

/-- A hold cause (R9): a RUNNING or DRAINING job enters HELD with its reason; any other job ignores it. -/
def holdJobFor (j : SlotNo) (why : HoldReason) (s : State) : State :=
  if (s.job j).state = .running ∨ (s.job j).state = .draining then
    withdrawLoads j
      (logEntry .jobHeld j.val (byte why.code)
        (changeJob j (fun x => { x.leaveRunning .held with hold := some why }) s))
  else s

/-- The serial limit tested after a serial is given (R17). -/
def testSerial (j : SlotNo) (s : State) : State := if serialSpent (s.job j) then holdJobFor j .serialRange s else s

/-! ### Pick reports (R13) -/

/-- The counters of a pick of one disc (R13, R16). -/
def Job.countPick (j : Job) : Job :=
  { j with reserved := j.reserved - 1, inFlight := j.inFlight + 1, issued := satInc max32 j.issued,
           nextSerial := j.nextSerial.map (· + 1) }

/-- The counters of a pick of a double-fed pair (R13). -/
def Job.countPair (j : Job) : Job :=
  { j with issued := satInc max32 j.issued, rejected := satInc max32 j.rejected, nextSerial := j.nextSerial.map (· + 1) }

/-- The reason for which a disc just picked is decided REJECTED at once: its job is ABORTING, or its lane carries a refuse mark
(R13, R65). Where both hold the model takes ABORTED, of which neither rule speaks (DESIGN CHOICE, assumption log 56). -/
def pickRefused (s : State) (n : LaneNo) (d : DiscRef) : Option RejectReason :=
  if (s.job d.slot).state = .aborting then some .aborted
  else
    match (s.lane n).refuse with
    | some .laneDisabled => some .laneDisabled
    | some .driveFault => some .driveFault
    | none => none

/-- A pick of one disc reported for a lane (R13, R16, R17, R34, R37). The picked timestamp is the time of this report, after the shakes
of a thick grip (R37 says at the grip; DEDUCED, assumption log 57). -/
def pickOne (n : LaneNo) (s : State) : State :=
  match (s.lane n).disc with
  | some d =>
    let serial := (s.job d.slot).nextSerial
    let s1 := changeJob d.slot Job.countPick s
    let s2 := updDisc d.index (fun r => { r with outcome := .pending, location := .arm, serial := serial, pickedAt := stampOnce r.pickedAt s.now }) s1
    let s3 := testSerial d.slot (testCounts d.slot (logEntry .discPicked d.index.val [] s2))
    match pickRefused s3 n d with
    | some why => (decideRejected d.index why 0 id s3).emit .armRejected
    | none => s3
  | none => s

/-- The record of a double-fed pair (R13, R37). -/
def DiscRecord.asPair (serial : Option Nat) (time : Nat) (r : DiscRecord) : DiscRecord :=
  { r with outcome := .rejected, reason := some .doubleFeed, doubleFeed := true, location := .arm, serial := serial,
           pickedAt := stampOnce r.pickedAt time }

/-- The reservation of a double-fed pair stands (R13), but for the fresh record. -/
def pairStands (j : Job) : Bool :=
  (decide (j.state = .running) || decide (j.state = .draining)) && serialRoom j (j.reserved - 1)

/-- The reservation of a pair that does not stand is cancelled: the record stays the pair's (R13). -/
def cancelPair (n : LaneNo) (j : SlotNo) (s : State) : State :=
  testCounts j
    (endReservation n (changeJob j (fun x => { x with reserved := x.reserved - 1 }) (withdrawTask (requesterOf n) s)))

/-- A pick of a double-fed pair reported for a lane whose LOAD has been queued again (R13, R32, R65). -/
def pickPair (n : LaneNo) (s : State) : State :=
  match (s.lane n).disc with
  | some d =>
    let serial := (s.job d.slot).nextSerial
    let s1 := updDisc d.index (DiscRecord.asPair serial s.now) (changeJob d.slot Job.countPair s)
    let s2 := logEntry .discRejected d.index.val (byte RejectReason.doubleFeed.code) (logEntry .discPicked d.index.val [] s1)
    let s3 :=
      match pairStands (s2.job d.slot), lowestFree s2 with
      | true, some i =>
        let t := (allocRecord i d.slot n s2).updLane n fun l => { l with disc := some ⟨i, d.slot⟩ }
        if (s.lane n).refuse.isSome then withdrawLoad n t else t
      | _, _ => cancelPair n d.slot s2
    testSerial d.slot s3
  | none => s

/-- A pick that finds the spindle empty, or a LOAD given up with no disc (R13, R139). -/
def pickNone (n : LaneNo) (s : State) : State := cancelReservation n s

/-! ### Dispatch (R18 to R20) -/

/-- A job may issue on a lane (R18). -/
def mayIssue (s : State) (j : SlotNo) (n : LaneNo) : Bool :=
  let job := s.job j
  match job.record with
  | some r =>
    decide (job.state = .running) && decide (job.sum < r.copies) && serialRoom job job.reserved &&
    inLaneSet r.laneSet n && laneIdle s n && !(s.entry (spindleStation r.spindle)).empty &&
    !(s.entry stationOutput).full && !(s.entry stationReject).full && decide (0 < freeCount s)
  | none => false

/-- A job ranks before another (R19): higher priority, then fewer in flight and reserved, then the lower slot. -/
def ranksBefore (s : State) (a b : SlotNo) : Bool :=
  let pa := match (s.job a).record with | some r => r.priority | none => 0
  let pb := match (s.job b).record with | some r => r.priority | none => 0
  let ca := (s.job a).inFlight + (s.job a).reserved
  let cb := (s.job b).inFlight + (s.job b).reserved
  decide (pb < pa) || (decide (pa = pb) && (decide (ca < cb) || (decide (ca = cb) && decide (a ≤ b))))

/-- The best-ranked of the jobs that may issue on a lane. -/
def bestJob (s : State) (n : LaneNo) : List SlotNo → Option SlotNo
  | [] => none
  | j :: rest =>
    match bestJob s n rest with
    | none => if mayIssue s j n then some j else none
    | some b => if mayIssue s j n && ranksBefore s j b then some j else some b

/-- A lane as its reservation leaves it (R65). -/
def Lane.reserve (d : DiscRef) (l : Lane) : Lane :=
  { l with disc := some d, fifo := [], credits := 0, nextCopy := 0, nextSend := 0, pace := ⟨0, 0, 0, 0⟩,
           totals := ⟨0, 0, 0⟩, speedReq := none, offered := [], ceiling := none, rate := none, refuse := none,
           inTray := false, orphan := false, uncounted := none }

/-- A reservation of a lane by a job (R20). -/
def reserveLane (n : LaneNo) (j : SlotNo) (s : State) : State :=
  match lowestFree s, (s.job j).record with
  | some i, some r =>
    let s1 := changeJob j (fun x => { x with reserved := x.reserved + 1 }) s
    let s2 := enterLane n .loadWait ((allocRecord i j n s1).updLane n (Lane.reserve ⟨i, j⟩))
    testCounts j (queueTask .load (requesterOf n) (spindleStation r.spindle) (trayOf n) s2)
  | _, _ => s

/-- One lane offered in a dispatch pass (R19). -/
def offerLane (s : State) (n : LaneNo) : State :=
  if laneIdle s n then
    match bestJob s n allSlots with
    | some j => reserveLane n j s
    | none => s
  else s

/-- A dispatch pass: each IDLE lane in ascending order (R19). JC makes none while the part is STOPPED (R178). -/
def dispatchPass (s : State) : State :=
  if s.port.part = .stopped then s else allLanes.foldl offerLane s

/-- The stall flags of every job brought up to date (R21). -/
def refreshStalls (s : State) : State :=
  allSlots.foldl (fun t j => changeJob j (fun x => { x with stall := stallFlags t j }) t) s

/-! ### Probe reports (R15) -/

/-- A probe passed: the run becomes 0. -/
def probePassed (j : SlotNo) (s : State) : State := changeJob j (fun x => { x with probeRun := 0 }) s

/-- A probe rejected with WRONG_MEDIA or NOT_BLANK: the run advances, holding at 3, and the increment that brings it to 3 is a
SUPPLY_SUSPECT hold cause (R15). Other reasons leave it. -/
def probeRejected (j : SlotNo) (why : RejectReason) (s : State) : State :=
  if why = .wrongMedia ∨ why = .notBlank then
    let s1 := changeJob j (fun x => { x with probeRun := min 3 (x.probeRun + 1) }) s
    if (s.job j).probeRun = 2 then holdJobFor j .supplySuspect s1 else s1
  else s

end Sys2Proof.Machine
end

