-- ==== Sys2Proof/Machine/Strobe.lean ====
section
/-! DEFINITION. The strobe computation (chapter 9) and the dots of a line (R154, R155). -/

namespace Sys2Proof.Machine

/-! ### Temperature (R167) -/

/-- An entry of the thermistor table. -/
def Profile.entry (p : Profile) (k : Nat) : Int := p.table.getD k 0

/-- A thermistor code of 0 or 1,023 is a sensor fault (R167). -/
def sensorFault (code : Nat) : Bool := decide (code = 0) || decide (code = 1023)

/-- A temperature difference over 64, rounded to the nearest with a tie away from zero (R167). -/
def roundedSixtyFourth (q : Int) : Int := if 0 ≤ q then (q + 32) / 64 else -((-q + 32) / 64)

/-- The head temperature in quarter-degrees C: linear interpolation in the table (R167). -/
def temperature (p : Profile) (code : Nat) : Int :=
  p.entry (code / 64) + roundedSixtyFourth ((p.entry (code / 64 + 1) - p.entry (code / 64)) * ((code % 64 : Nat) : Int))

/-! ### Factor and supply (R169, R170) -/

/-- The temperature factor, clamped to 1,024..8,192 (R169). -/
def factor (p : Profile) (tq : Int) : Int := max 1024 (min 8192 (4096 - p.kt * (tq - 100)))

/-- The temperature-corrected pulse (R169). -/
def pulseByTemperature (p : Profile) (tq : Int) : Nat := ((p.p0 * factor p tq + 2048) / 4096).toNat

/-- The supply in millivolts (R170). -/
def supplyVolts (code : Nat) : Nat := 8 * code

/-- The supply-corrected pulse (R170). -/
def pulseBySupply (p : Profile) (pt v : Nat) : Nat := (pt * p.vref ^ 2 + v ^ 2 / 2) / v ^ 2

/-! ### Clamp, phases and period (R171 to R173) -/

/-- The pulse clamped to [Pmin, Pmax] (R171). -/
def clampPulse (p : Profile) (pv : Nat) : Nat := if pv < p.pmin then p.pmin else if p.pmax < pv then p.pmax else pv

/-- A fraction of the pulse in units of 1/256, rounded to the nearest (R172). -/
def phaseMark (pulse h : Nat) : Nat := (pulse * h + 128) / 256

/-- The line period (R173). -/
def linePeriod (p : Profile) (pulse : Nat) : Nat := max p.period (pulse + 20)

/-- What the computation hands on (R155, R174). -/
inductive StrobeResult where
  | sensor
  | hot (tq : Int)
  | lowSupply (v : Nat)
  | pulse (p t1 t2 period : Nat) (stretched : Bool)
  deriving DecidableEq, Repr

/-- The strobe computation of a line (R166). -/
def strobe (p : Profile) (sample : Sample) : StrobeResult :=
  let c := sample.thermistor.toNat
  if sensorFault c then .sensor
  else
    let tq := temperature p c
    if p.tmax ≤ tq then .hot tq
    else
      let v := supplyVolts sample.supply.toNat
      if v < p.vmin then .lowSupply v
      else
        let pulse := clampPulse p (pulseBySupply p (pulseByTemperature p tq) v)
        .pulse pulse (phaseMark pulse p.h1) (phaseMark pulse p.h2) (linePeriod p pulse) (decide (p.period < pulse + 20))

/-! ### The dots of a line (R154, R155) -/

/-- Dot d of a raster line: bit 7 − (d mod 8) of byte ⌊d/8⌋ (R154). -/
def rasterDot (bs : List Byte) (d : Nat) : Bool := bitAt bs (d / 8) (7 - d % 8)

/-- The bytes of a row of a glyph (R154). -/
def glyphStride (o : Overlay) : Nat := (o.glyphWidth + 7) / 8

/-- Column c of row r of glyph g of a strip (R154). -/
def glyphBit (strip : List Byte) (o : Overlay) (g r c : Nat) : Bool :=
  bitAt strip (g * o.glyphHeight * glyphStride o + r * glyphStride o + c / 8) (7 - c % 8)

/-- The overlay sets dot d of line i (R154). -/
def overlayDot (strip : List Byte) (o : Overlay) (digits : List Nat) (i d : Nat) : Bool :=
  if o.y ≤ i ∧ i < o.y + o.glyphHeight ∧ o.x ≤ d ∧ d < o.x + digits.length * o.glyphWidth then
    glyphBit strip o (digits.getD ((d - o.x) / o.glyphWidth) 0) (i - o.y) ((d - o.x) % o.glyphWidth)
  else false

/-- The dots of a composed line: the overlay ORed into the raster (R154). -/
def composeLine (job : Job) (serial : Option Nat) (i : Nat) (bs : List Byte) : List Bool :=
  match job.record with
  | some r =>
    match r.overlay with
    | some o =>
      let digits := serialDigitValues (orZero (serialWidth r.substs)) (orZero serial)
      (List.range 1344).map fun d => rasterDot bs d || overlayDot job.glyphs o digits i d
    | none => (List.range 1344).map (rasterDot bs)
  | none => (List.range 1344).map (rasterDot bs)

/-- In how many of the two previous lines each dot fired: h (R155). -/
def dotHeat (newer older : List Bool) : List Nat := List.zipWith (fun a b => a.toNat + b.toNat) newer older

/-- The dots heated in a phase: every firing dot, those with h at most 1, those with h = 0 (R155). -/
def phaseDots (phase : Nat) (dots newer older : List Bool) : List Bool :=
  List.zipWith (fun fires h => fires && decide (h + phase ≤ 3)) dots (dotHeat newer older)

/-- The length of a phase (R155, R172). -/
def Strike.length (k : Strike) (phase : Nat) : Nat :=
  match phase with
  | 1 => k.t2
  | 2 => k.t1 - k.t2
  | 3 => k.pulse - k.t1
  | _ => 0

/-- The next phase that is not left out (R155). -/
def Strike.next (k : Strike) (phase : Nat) : Option Nat :=
  match phase with
  | 1 => if 0 < k.length 2 then some 2 else if 0 < k.length 3 then some 3 else none
  | 2 => if 0 < k.length 3 then some 3 else none
  | _ => none

end Sys2Proof.Machine
end

