-- ==== Sys2Proof/Machine/Printer.lean ====
section
/-! DEFINITION. The Label Printer (chapter 8): its status, the present request, placements, print start, the line fetch, the
strike of a line, holds, print ends, faults, and the STOP input's halt and release. -/

namespace Sys2Proof.Machine

/-! ### Status (R147) -/

/-- The printer status written. -/
def writePrinter (s : State) : State := report printerRegion (printerBlock s.printer) s

/-- The printer context changed without a status write. -/
def updPrinter (f : Printer → Printer) (s : State) : State := { s with printer := f s.printer }

/-- The items whose change is followed by a status write (R147). -/
structure StatusItems where
  state : PrinterState
  halt : Bool
  cause : Option PrinterCause
  disc : Option PrinterDisc
  complete : Bool
  bound : Option (Nat × Nat)
  deriving DecidableEq, Repr

/-- Those items of a printer context. -/
def statusItems (p : Printer) : StatusItems := ⟨p.state, p.halt, p.cause, p.disc, p.complete, p.bound⟩

/-- The printer context changed, and the status written if one of those items changed (R147). -/
def changePrinter (f : Printer → Printer) (s : State) : State :=
  if statusItems (f s.printer) = statusItems s.printer then updPrinter f s else writePrinter (updPrinter f s)

/-! ### The present request (R148, R149) -/

/-- A move of the tray begins (R148). -/
def startMove (m : TrayMove) (s : State) : State := updPrinter (fun p => { p with move := some m, moveStart := s.now }) s

/-- The tray is at HOME: the arm is answered that it is presented, and the request ends (R149). -/
def answerPresent (s : State) : State := (updPrinter (fun x => { x with tray := .home, present := false }) s).emit .presented

/-- A home seek begins for the request; one that starts with the home sensor tripped ends at once (R148). The sensor's level is a free
value (assumption log 53). -/
def seekHome (s : State) : State :=
  if Config.homeSensor s.draws then answerPresent s.draw else startMove .homeSeek s.draw

/-- A standing present request served in EMPTY, FINISHED and FAULTED: answered at HOME, else by a home seek; while halted it is
kept (R149, R161). A home seek under way serves it. In FINISHED a line advance that a read failure's end left running may still run: the
request waits for LINE_ADVANCE_DONE, and the home seek is begun then; R149 does not say whether the seek replaces the advance (DESIGN
CHOICE, assumption log 78). -/
def servePresent (s : State) : State :=
  let p := s.printer
  if p.present ∧ ¬ p.halt ∧ (p.state = .empty ∨ p.state = .finished ∨ p.state = .faulted) then
    if p.tray = .home then answerPresent s
    else if p.move = none then seekHome s
    else s
  else s

/-- The arm asks the printer to present its tray; a request that already stands is the one answered (R149, R161). -/
def askPresent (s : State) : State :=
  if s.printer.present then s else servePresent (updPrinter (fun p => { p with present := true }) s)

/-! ### The printer's unload (R158) -/

/-- The destination of the held disc (R158). -/
def printerDest (s : State) : StationNo :=
  match s.printer.disc with
  | some (.disc d) =>
    match s.disc d.index with
    | some r => if r.outcome = .passed ∧ s.printer.complete then stationOutput else stationReject
    | none => stationReject
  | _ => stationReject

/-- UNLOAD(printer) asked for, unless its slot holds it or it is the arm's current task (R158). -/
def queuePrinterUnload (s : State) : State :=
  if hasQueued s requesterPrinter || hasBegun s requesterPrinter then s
  else queueTask .unloadPrinter requesterPrinter stationPrinter (printerDest s) s

/-- The printer enters FINISHED, its unload is queued, and a standing present request is served (R149, R158). -/
def finishPrinter (s : State) : State :=
  servePresent (queuePrinterUnload (changePrinter (fun p => { p with state := .finished }) s))

/-! ### The raster use table (R164) -/

/-- A use of an address more (R164). -/
def bindUse (a : Nat) (uses : List RasterUse) : List RasterUse :=
  if uses.any fun u => decide (u.address = a) then uses.map fun u => if u.address = a then { u with count := u.count + 1 } else u
  else uses ++ [⟨a, 1, false⟩]

/-- A use of an address fewer; an entry that reaches 0 is removed (R164). -/
def releaseUse (a : Nat) (uses : List RasterUse) : List RasterUse :=
  (uses.map fun u => if u.address = a then { u with count := u.count - 1 } else u).filter fun u => decide (0 < u.count)

/-- The address is marked retiring. -/
def isRetiring (a : Nat) (uses : List RasterUse) : Bool := uses.any fun u => decide (u.address = a) && u.retiring

/-- The address is in use (R164). -/
def inUse (a : Nat) (uses : List RasterUse) : Bool := uses.any fun u => decide (u.address = a) && decide (0 < u.count)

/-- The retiring mark of an address set or removed (R164). -/
def setRetiring (a : Nat) (b : Bool) (uses : List RasterUse) : List RasterUse :=
  uses.map fun u => if u.address = a then { u with retiring := b } else u

/-! ### Print ends (R157) -/

/-- Steps 1 and 2 of a print end: reads dropped, buffer and holds cleared, the binding ended, LABEL_RETIRED logged for a
retiring address (R157, R164). -/
def endBinding (s : State) : State :=
  let clear := fun (p : Printer) =>
    { p with buffer := Vector.replicate 4 .empty, line := .off, strike := none, head := none, ribbonPending := false,
             readFailed := false }
  match s.printer.bound with
  | some b =>
    let s1 := updPrinter (fun p => { clear p with uses := releaseUse b.1 p.uses, bound := none }) s
    if isRetiring b.1 s.printer.uses && !inUse b.1 s1.printer.uses then logEntry .labelRetired 0 (dword b.1) s1 else s1
  | none => updPrinter clear s

/-- The printer's disc is decided REJECTED with LABEL_INCOMPLETE (R150, R157, R159, R161). -/
def rejectLabel (s : State) : State :=
  match s.printer.disc with
  | some (.disc d) => decideRejected d.index .labelIncomplete 0 id s
  | _ => s

/-- A print ends complete: the record's printed flag and timestamp, label complete (R36, R157). -/
def completeLabel (s : State) : State :=
  match s.printer.disc with
  | some (.disc d) =>
    updPrinter (fun p => { p with complete := true })
      (updDisc d.index (fun r => { r with printed := true, printedAt := stampOnce r.printedAt s.now }) s)
  | _ => s

/-- A print ends complete (R157, steps 1 to 4). -/
def endComplete (s : State) : State := writePrinter (completeLabel (endBinding s))

/-- A print ends incomplete (R157, steps 1 to 4). -/
def endIncomplete (s : State) : State := writePrinter (rejectLabel (endBinding s))

/-! ### Faults (R159) -/

/-- A print is in progress. -/
def printing (p : Printer) : Bool :=
  decide (p.state = .printing) || decide (p.state = .hotHold) || decide (p.state = .supplyWait)

/-- A fault stops the tray between HOME and a line: in a retract, or in a home seek that began at a line. -/
def stopsBetween (p : Printer) : Bool :=
  match p.move, p.tray with
  | some .retract, _ => true
  | some .homeSeek, .line _ => true
  | _, _ => false

/-- The head, the tray and the hold timers stopped. The position stays where the tray stopped (R159): a line advance leaves the line it
reached (R157), and a home seek from LOST leaves LOST. A tray stopped between HOME and a line has left HOME, and the line its position
names is a free value (DESIGN CHOICE, assumption log 22). -/
def stopMotion (s : State) : State :=
  let stopped := updPrinter (fun p => { p with head := none, move := none, line := .off, strike := none }) s
  if stopsBetween s.printer then
    (updPrinter (fun p => { p with tray := .line (Config.stoppedLine s.draws).val }) stopped).draw
  else stopped

/-- The printer fails (R159). A FAULTED or a halted printer takes no fault (R159, R161). The disc index takes one byte of the detail, as in
the status (11.7), where 11.8 gives it no width (PRESUMED, assumption log 59). -/
def printerFail (cause : PrinterCause) (s : State) : State :=
  if s.printer.state = .faulted ∨ s.printer.halt then s
  else
    let p := s.printer
    let s1 := updPrinter (fun x => { x with cause := some cause }) (stopMotion s)
    let s2 := if printing p then endIncomplete s1 else if p.state = .loaded then rejectLabel s1 else s1
    logEntry .printerFault 0
      (byte cause.code ++ byte p.state.code ++
        byte (match p.disc with | some (.disc d) => d.index.val | _ => 0) ++
        half (if printing p then p.linesStruck else 0))
      (writePrinter (updPrinter (fun x => { x with state := .faulted }) s2))

/-- A RIBBON_OUT taken: a present request that stands is taken by the FAULTED printer, which makes a new home seek for it (R149,
R159; assumption log 52). -/
def ribbonFails (s : State) : State := servePresent (printerFail .ribbonOut s)

/-- The printer enters EMPTY, reading the ribbon sensor: FAULTED with RIBBON_OUT when it is out (R158, R159). PRINTER_FAULT then shows the
state it was in, FINISHED, where R159 says neither FINISHED nor EMPTY (DESIGN CHOICE, assumption log 72). -/
def enterEmpty (ribbonOut : Bool) (s : State) : State :=
  let s1 := { s with pins := { s.pins with ribbonOut := ribbonOut } }
  if ribbonOut ∧ ¬ s.printer.halt then ribbonFails s1
  else servePresent ((changePrinter (fun p => { p with state := .empty }) s1).emit .select)

/-! ### The arm's reports (R150, R158, R165) -/

/-- A disc released onto the tray (R150, R161). -/
def printerPlaced (d : DiscRef) (s : State) : State :=
  match s.printer.state with
  | .empty =>
    let s1 := changePrinter (fun p => { p with disc := some (.disc d), complete := false, state := .loaded }) s
    if s.printer.halt then rejectLabel s1 else startMove .retract s1
  | .faulted => rejectLabel (changePrinter (fun p => { p with disc := some (.disc d), complete := false }) s)
  | _ => s

/-- The disc is taken from the tray: the printer clears it and leaves FINISHED for EMPTY or FAULTED (R158). In the sweep the
printer is EMPTY already and stays so (R165). -/
def printerTaken (ribbonOut : Bool) (s : State) : State :=
  let s1 := changePrinter (fun p => { p with disc := none, complete := false }) s
  if s.printer.state = .finished then enterEmpty ribbonOut s1 else s1

/-! ### The line fetch (R152) -/

/-- The buffer slot of a line. -/
def bufferSlot (line : Nat) : Fin 4 := ⟨line % 4, by omega⟩

/-- A buffer slot's contents. -/
def lineSlot (p : Printer) (line : Nat) : LineSlot := p.buffer[bufferSlot line]

/-- A buffer slot set. -/
def setSlot (line : Nat) (v : LineSlot) (s : State) : State :=
  updPrinter (fun p => { p with buffer := p.buffer.set (bufferSlot line).val v (bufferSlot line).isLt }) s

/-- The line count of the bound raster. -/
def boundLines (p : Printer) : Nat :=
  match p.bound with
  | some b => b.2
  | none => 0

/-- The read of the next line not yet read is issued, where one is left (R152). -/
def issueRead (s : State) : State :=
  let i := s.printer.nextRead
  if i < boundLines s.printer then
    updPrinter (fun p => { p with nextRead := i + 1 }) (setSlot i (.reading i 1 s.now) s)
  else s

/-- The line's slot is ready, with its bytes. -/
def lineReady (p : Printer) (line : Nat) : Option (List Byte) :=
  match lineSlot p line with
  | .ready i bs => if i = line then some bs else none
  | _ => none

/-! ### Print start (R151) -/

/-- The print start, at the end of the retract (R151). -/
def printStart (sample : Sample) (s : State) : State :=
  match s.printer.disc with
  | some (.disc d) =>
    let raster := (s.job d.slot).raster.getD (0, 0)
    let s1 := updPrinter (fun p =>
      { p with bound := some raster, uses := bindUse raster.1 p.uses, newer := List.replicate 1344 false,
               older := List.replicate 1344 false, nextLine := 0, nextRead := 0, linesStruck := 0, starved := 0, stretched := 0,
               lastPulse := 0, lastPeriod := 0, sample := sample, print := p.print + 1, ribbonPending := false,
               readFailed := false, strike := none, head := none, line := .waitDue s.now }) s
    let s2 := updDisc d.index (fun r => { r with raster := some raster.1 }) s1
    writePrinter (updPrinter (fun p => { p with state := .printing }) (issueRead (issueRead (issueRead (issueRead s2)))))
  | _ => s

/-! ### Striking a line (R153, R155, R156) -/

/-- HOT_HOLD or SUPPLY_WAIT entered: its sampling and timeout start, and the status is written (R147, R156). -/
def enterHold (st : PrinterState) (s : State) : State :=
  writePrinter (updPrinter (fun p => { p with state := st, line := .waiting, holdStart := s.now, sampledAt := s.now }) s)

/-- A disc index for the printer's log entries. -/
def printerIndex (p : Printer) : Nat :=
  match p.disc with
  | some (.disc d) => d.index.val
  | _ => 0

/-- HEAD_HOT_HOLD's detail: Tq and Tmax (R156, R174), two bytes each as in the profile, signed; 11.8 gives no width for a temperature
(PRESUMED, assumption log 59). -/
def hotDetail (tq tmax : Int) : List Byte := half (BitVec.ofInt 16 tq).toNat ++ half (BitVec.ofInt 16 tmax).toNat

/-- The head in a phase: the dots heated; a line with no firing dot drives no strobe (R155). -/
def headInPhase (p : Printer) (k : Strike) (phase : Nat) : Option (List Bool) :=
  if k.dots.any id then some (phaseDots phase k.dots p.newer p.older) else none

/-- Phase 1 of a strike begins (R155). -/
def beginStrike (k : Strike) (s : State) : State :=
  updPrinter (fun p => { p with strike := some k, line := .striking 1 s.now s.now, head := headInPhase p k 1 }) s

/-- The next line's strobe computation, and its strike, a hold or a fault (R153, R155, R156). -/
def computeLine (bs : List Byte) (s : State) : State :=
  let p := s.printer
  match strobe p.profile p.sample with
  | .sensor => printerFail .sensor s
  | .hot tq => enterHold .hotHold (logEntry .headHotHold (printerIndex p) (hotDetail tq p.profile.tmax) s)
  | .lowSupply _ => enterHold .supplyWait s
  | .pulse pulse t1 t2 period stretched =>
    match p.disc with
    | some (.disc d) =>
      let dots := composeLine (s.job d.slot)
        (match s.disc d.index with | some r => r.serial | none => none) p.nextLine bs
      beginStrike ⟨pulse, t1, t2, period, stretched, dots⟩ s
    | _ => s

/-- The next line computed and struck; a ribbon found out at the strobe computation fails the printer before it (R159, R161; assumption
log 64). A level last met asserted is read anew: no command carries its negation, so it is a free value (assumption logs 11 and 53). -/
def strikeLine (bs : List Byte) (s : State) : State :=
  if s.pins.ribbonOut then
    if Config.ribbonSensor s.draws then ribbonFails s.draw
    else computeLine bs { s.draw with pins := { s.pins with ribbonOut := false } }
  else computeLine bs s

/-- A due line is struck as soon as its slot is ready and its advance has ended (R153, R155). -/
def tryStrike (s : State) : State :=
  match lineReady s.printer s.printer.nextLine with
  | some bs => if s.printer.move = none then strikeLine bs s else updPrinter (fun p => { p with line := .waiting }) s
  | none => updPrinter (fun p => { p with line := .waiting }) s

/-- The line is held for want of its slot: starved lines + 1 (R153). -/
def starveLine (s : State) : State :=
  updPrinter (fun p => { p with line := .waiting, starved := satInc max16 p.starved }) s

/-! ### The end of a strike (R155) -/

/-- The context after a line's last phase: history, samples, last line, counts, the slot emptied (R155). -/
def lineStruck (k : Strike) (sample : Sample) (s : State) : State :=
  setSlot s.printer.nextLine .empty
    (updPrinter (fun p =>
      { p with older := p.newer, newer := k.dots, sample := sample, lastPulse := k.pulse, lastPeriod := k.period,
               stretched := if k.stretched then satInc max16 p.stretched else p.stretched,
               linesStruck := p.linesStruck + 1, nextLine := p.nextLine + 1, strike := none, head := none }) s)

/-- The print goes on after a struck line: the next read, the line advance, the due time (R152, R153, R155). -/
def continuePrint (lineStart period : Nat) (s : State) : State :=
  startMove .advance (updPrinter (fun p => { p with line := .waitDue (lineStart + period) }) (issueRead s))

/-- A print ends on a failed read (R152, R157). -/
def endOnRead (s : State) : State := finishPrinter (endIncomplete s)

/-- What follows a line's last phase (R155): the end of the label, a pending ribbon-out (R159) or failed read (R152), or the next
line. -/
def afterLine (lineStart period : Nat) (s : State) : State :=
  let p := s.printer
  if boundLines p ≤ p.nextLine then finishPrinter (endComplete s)
  else if p.ribbonPending then printerFail .ribbonOut s
  else if p.readFailed then endOnRead s
  else continuePrint lineStart period s

/-! ### STOP (R161) -/

/-- The STOP input halts the printer at once (R161). -/
def haltPrinter (s : State) : State :=
  if s.printer.halt then s
  else
    let p := s.printer
    let s1 := changePrinter (fun x => { x with halt := true })
      (updPrinter (fun x => { x with head := none, strike := none, line := .off, move := none, tray := .lost }) s)
    if printing p then endIncomplete s1 else if p.state = .loaded then rejectLabel s1 else s1

/-- The release, at the first homing that succeeds after the STOP input was negated (R161). -/
def releasePrinter (s : State) : State :=
  if s.printer.halt then
    let p := s.printer
    let s1 := changePrinter (fun x => { x with halt := false }) s
    if printing p ∨ p.state = .loaded ∨ p.state = .finished then finishPrinter s1 else servePresent s1
  else s

end Sys2Proof.Machine
end

