-- ==== Sys2Proof/Machine/Verify.lean ====
section
/-! DEFINITION. The composition of a sector (R70, R115), the compare units and their queue (R112 to R114), the early end of a
lane's disc (R79, R120), the verify decisions (R118, R119), and the lane diagnosis (R89, R90). -/

namespace Sys2Proof.Machine

/-! ### Composition (R70, R115) -/

/-- The bytes a substitution entry writes: its FIXED bytes, or the serial's digits. -/
def Subst.bytes (serial : Option Nat) (e : Subst) : List Byte :=
  match e.kind with
  | .fixed bs => bs.take e.length
  | .serial w => serialDigits w (orZero serial)

/-- A sector with every entry of a substitution list that names it applied, in list order (R70, R115). -/
def composeSector (substs : List Subst) (serial : Option Nat) (sector : Nat) (bs : List Byte) : List Byte :=
  (substs.filter fun e => decide (e.sector = sector)).foldl (fun b e => overwrite b e.offset (e.bytes serial)) bs

/-- The substitution list of a slot's job. -/
def jobSubsts (s : State) (j : SlotNo) : List Subst :=
  match (s.job j).record with
  | some r => r.substs
  | none => []

/-- The serial of a disc, given at its pick. -/
def discSerial (s : State) (i : DiscNo) : Option Nat :=
  match s.disc i with
  | some r => r.serial
  | none => none

/-! ### The early end of a disc (R79, R120) -/

/-- A compare unit goes FREE, which may make a grant (R113). -/
def freeUnit (u : UnitNo) (s : State) : State := (s.setUnit u CompareUnit.reset).emit .grant

/-- The lane's verify state changed. -/
def updVerify (n : LaneNo) (f : VerifyState → VerifyState) (s : State) : State :=
  s.updLane n fun l => { l with verify := f l.verify }

/-- What a rejected disc holds of VE is given back by its lane's compare stage (R120). -/
def giveBack (n : LaneNo) (s : State) : State :=
  match (s.lane n).verify.stage, (s.lane n).verify.unit with
  | .off, _ => s
  | .queued, _ =>
    updVerify n (fun v => { v with stage := .off })
      { s with verify := { s.verify with queue := s.verify.queue.filter fun q => decide (q.lane ≠ n) } }
  | .granted, some u =>
    if (s.unit u).state = .comparing then
      updVerify n (fun v => { v with stage := .off }) (s.setUnit u { s.unit u with discard := true })
    else
      freeUnit u (unpinKind n .compare (updVerify n (fun v => { v with stage := .off, unit := none }) s))
  | .granted, none => updVerify n (fun v => { v with stage := .off }) s

/-- The states in which an early end sends ABORT (R79, R107). -/
def abortStates : List LaneState := [.probing, .negotiating, .writing, .closing, .verifying]

/-- Steps 1 to 3 of an early end (R79): pins and VE given back, the disc's waits and speed request dropped, credits 0, the FIFO
emptied but for what a discarded compare still reads (R120), ABORT sent. -/
def endEarly (n : LaneNo) (s : State) : State :=
  let s1 := giveBack n (unpinKind n .write s)
  let s2 := s1.updLane n fun l =>
    { l with speedReq := none, credits := 0, waits := { Waits.none with tray := l.waits.tray },
             fifo := if holdsDiscarded s1 n then l.fifo else [] }
  if abortStates.contains (s.lane n).state then sendMsg n .abort s2 else s2

/-- The write totals of a lane's disc (R35). -/
def laneTotals (l : Lane) : WriteTotals := ⟨orZero l.rate, l.totals.gaps, l.totals.downshifts, l.totals.upshifts⟩

/-- The verify counts of a lane's disc (R35). -/
def laneCounts (l : Lane) : VerifyCounts := ⟨l.verify.hard, l.verify.miscompare, l.verify.soft⟩

/-- What a rejection sets in the record besides its outcome (R35): the write totals after write start and before CLOSED, the
verify counts in VERIFYING. -/
def rejectFields (l : Lane) (r : DiscRecord) : DiscRecord :=
  let r1 := if r.writeStart.isSome ∧ r.writeEnd.isNone then { r with totals := some (laneTotals l) } else r
  if l.state = .verifying then { r1 with verify := some (laneCounts l) } else r1

/-- A disc of the lane rejected with WRITE_FAULT adds to the write fault run; the third clears enabled and logs LANE_DISABLED
(R83). A run that stands at 3 already, of a lane that RUN has enabled again, holds 3 and acts as at the third (DESIGN CHOICE,
assumption log 58). -/
def countWriteFault (n : LaneNo) (s : State) : State :=
  let run := min 3 ((s.lane n).faultRun + 1)
  if run = 3 then
    logEntry .laneDisabled n.val (byte RejectReason.writeFault.code)
      (writeLane n (s.updLane n fun l => { l with faultRun := run, enabled := false }))
  else writeLane n (s.updLane n fun l => { l with faultRun := run })

/-- Steps 1 to 4 of an early end: the disc is decided REJECTED (R79). -/
def rejectHeld (n : LaneNo) (why : RejectReason) (code : Nat) (f : DiscRecord → DiscRecord) (s : State) : State :=
  match (s.lane n).disc with
  | some d =>
    let s1 := decideRejected d.index why code (fun r => f (rejectFields (s.lane n) r)) (endEarly n s)
    if why = .writeFault then countWriteFault n s1 else s1
  | none => s

/-- The lane's disc is decided REJECTED while the lane holds it (R79): in its tray it is unloaded, at the CLOSED answer where the
load's tray exchange still runs (R101); on the arm the Disc Transport carries it off (R137). -/
def laneReject (n : LaneNo) (why : RejectReason) (code : Nat) (f : DiscRecord → DiscRecord) (s : State) : State :=
  let s1 := rejectHeld n why code f s
  if (s.lane n).inTray then (if (s.lane n).state = .trayLoad then s1 else requestUnload n s1)
  else s1.emit .armRejected

/-! ### Verify decisions (R118, R119) -/

/-- The verify counts and the verify end of a decision (R35). -/
def verifyFields (l : Lane) (time : Nat) (r : DiscRecord) : DiscRecord :=
  { r with verify := some (laneCounts l), verifyEnd := stampOnce r.verifyEnd time }

/-- Verification stops with a reason (R118). -/
def verifyStop (n : LaneNo) (why : RejectReason) (s : State) : State :=
  laneReject n why 0 (verifyFields (s.lane n) s.now) s

/-- The disc is decided PASSED and its unload is requested (R119). -/
def verifyPass (n : LaneNo) (s : State) : State :=
  match (s.lane n).disc with
  | some d =>
    requestUnload n (updDisc d.index (fun r => { verifyFields (s.lane n) s.now r with outcome := .passed }) s)
  | none => s

/-! ### Blocks (R109) -/

/-- The sectors of the verify block that starts at a sector. -/
def blockSize (sectors start : Nat) : Nat := min 32 (sectors - start)

/-- READ sent for the block that starts at a sector (R109). -/
def startBlock (n : LaneNo) (sectors start : Nat) (s : State) : State :=
  let count := blockSize sectors start
  setWaits n (fun w => { w with readBlock := some s.now })
    (sendMsg n (.read start count)
      (s.updLane n fun l =>
        { l with fifo := [], verify := { l.verify with blockStart := start, blockCount := count, received := [] } }))

/-- The lane enters VERIFYING and reads block 0 (R108, R109). -/
def enterVerifying (n : LaneNo) (sectors : Nat) (s : State) : State :=
  startBlock n sectors 0 (enterLane n .verifying (s.updLane n fun l => { l with verify := VerifyState.reset }))

/-- After a block: the next READ, or PASSED after the last (R109, R116). The last block's sectors of a READABILITY disc stay in the FIFO
until the next reservation, where R119 is silent (DESIGN CHOICE, assumption log 68). -/
def nextBlock (n : LaneNo) (sectors : Nat) (s : State) : State :=
  let next := (s.lane n).verify.blockStart + 32
  if next < sectors then startBlock n sectors next s else verifyPass n s

/-! ### The compare queue (R112, R113, R114) -/

/-- A request enters the compare queue at the next arrival position (R112, R113). -/
def queueCompare (n : LaneNo) (kind : CompareKind) (start count : Nat) (j : SlotNo) (serial : Option Nat) (s : State) : State :=
  (updVerify n (fun v => { v with stage := .queued })
    { s with verify := { s.verify with
        queue := s.verify.queue ++ [⟨n, kind, start, count, j, serial, s.verify.arrivals⟩]
        arrivals := satInc max64 s.verify.arrivals } }).emit .grant

/-- The earliest request, the lower lane among equal positions (R112, R113). -/
def earliestReq : List CompareReq → Option CompareReq
  | [] => none
  | r :: rest =>
    match earliestReq rest with
    | none => some r
    | some b => if r.arrival < b.arrival ∨ (r.arrival = b.arrival ∧ r.lane ≤ b.lane) then some r else some b

/-- The lowest-numbered FREE unit. -/
def freeUnitNo (s : State) : Option UnitNo := firstIndex s.verify.units fun u => decide (u.state = .free)

/-- A unit as its grant leaves it (R113). -/
def CompareUnit.granted (r : CompareReq) : CompareUnit :=
  ⟨if r.kind = .disc then .referenceWait else .comparing, some r.lane, r.kind, r.blockStart, r.blockCount, r.slot, r.serial,
   r.blockStart, false, 0, none⟩

/-- A request takes a unit (R113). -/
def takeUnit (r : CompareReq) (u : UnitNo) (s : State) : State :=
  let s1 := s.setUnit u (CompareUnit.granted r)
  updVerify r.lane (fun v => { v with stage := .granted, unit := some u })
    { s1 with verify := { s1.verify with queue := s1.verify.queue.filter fun q => decide (q ≠ r) } }

/-- The owning lane of a DISC grant pins its reference page (R114): the unit compares at once, waits, or finds the page FAILED,
where it goes FREE, the disc is decided REJECTED, and the job takes its IMAGE_FETCH cause (R55). -/
def pinReference (r : CompareReq) (u : UnitNo) (s : State) : State :=
  match pinFinds s r.slot (pageOf r.blockStart) with
  | .ready =>
    (pinPage r.lane .compare r.slot (pageOf r.blockStart) s).setUnit u { s.unit u with state := .comparing }
  | .waits => pinPage r.lane .compare r.slot (pageOf r.blockStart) s
  | .failed =>
    holdJobFor r.slot .imageFetch
      (verifyStop r.lane .verifyReference
        (freeUnit u (updVerify r.lane (fun v => { v with stage := .off, unit := none }) s)))

/-- A grant (R113). -/
def grantUnit (s : State) : State :=
  match freeUnitNo s, earliestReq s.verify.queue with
  | some u, some r =>
    match r.kind with
    | .disc => pinReference r u (takeUnit r u s)
    | .diagnosis => takeUnit r u s
  | _, _ => s

/-- Each unit that has gone FREE makes its own grant (R113), in the order of the freeings. -/
def takeGrants (n : Nat) (s : State) : State :=
  match n with
  | 0 => s
  | k + 1 =>
    if s.signals.contains .grant then takeGrants k (grantUnit { s with signals := s.signals.erase .grant }) else s

/-- What one lane of several does in a step, with the grants its freeings make, before the next lane's turn (R113): at most 64
grants, more than the 16 lanes can ask for. -/
def laneTurn (s : State) : State := takeGrants 64 s

/-- The lane is told that the page of its compare pin is ready (R114). -/
def referenceReady (n : LaneNo) (s : State) : State :=
  match (s.lane n).verify.unit with
  | some u => if (s.unit u).state = .referenceWait then s.setUnit u { s.unit u with state := .comparing } else s
  | none => s

/-- The lane is told that the page of its compare pin has failed (R54, R114). -/
def referenceFailed (n : LaneNo) (s : State) : State :=
  match (s.lane n).verify.unit with
  | some u =>
    if (s.unit u).state = .referenceWait then
      verifyStop n .verifyReference (freeUnit u (updVerify n (fun v => { v with stage := .off, unit := none }) s))
    else s
  | none => s

/-! ### Diagnosis (R89, R90) -/

/-- A diagnosis ends (R90): its result, the status block, DIAG_DONE; an IDLE lane brings a dispatch pass (R89). -/
def diagEnd (n : LaneNo) (how : DiagEnd) (s : State) : State :=
  match (s.lane n).diag with
  | some g =>
    let s1 := (unpinKind n .diagnostic s).updLane n fun l =>
      { l with diag := none, diagResult := some ⟨how, g.slot, g.pagesDone, g.sectorsCompared, g.mismatches, g.firstMismatch⟩ }
    let s2 := logEntry .diagDone n.val (byte g.slot.val ++ byte how.code) (writeLane n s1)
    if (s2.lane n).state = .idle then (s2.emit .dispatch).emit .stalls else s2
  | none => s

/-- The diagnosis queues for a compare unit with a block of its page (R90). -/
def diagQueue (n : LaneNo) (start : Nat) (s : State) : State :=
  match (s.lane n).diag with
  | some g =>
    let count := blockSize (imageSectors s g.slot) start
    queueCompare n .diagnosis start count g.slot g.serial
      (s.updLane n fun l => { l with diag := some { g with blockStart := start, blockCount := count } })
  | none => s

/-- The page of the diagnosis is RESIDENT: its first block (R90). -/
def diagReady (n : LaneNo) (s : State) : State :=
  match (s.lane n).diag with
  | some g => diagQueue n (64 * g.page) s
  | none => s

/-- The page of the diagnosis is FAILED (R54, R55, R90). -/
def diagFailed (n : LaneNo) (s : State) : State := diagEnd n .reference s

/-- The diagnosis pins its page (R46, R90); a FAILED one ends it and is a hold cause of its job (R55). -/
def diagPage (n : LaneNo) (s : State) : State :=
  match (s.lane n).diag with
  | some g =>
    match pinFinds s g.slot g.page with
    | .ready => diagReady n (pinPage n .diagnostic g.slot g.page s)
    | .waits => pinPage n .diagnostic g.slot g.page s
    | .failed => holdJobFor g.slot .imageFetch (diagFailed n s)
  | none => s

/-- A diagnosis begins (R89). -/
def diagStart (n : LaneNo) (j : SlotNo) (first count : Nat) (serial : Option Nat) (s : State) : State :=
  diagPage n (s.updLane n fun l => { l with diag := some ⟨j, first, first + count - 1, serial, 0, 0, 0, 0, 0, none⟩ })

/-- A block of a diagnosis has been compared, with its tally (R90, R117). -/
def diagBlockDone (n : LaneNo) (tally : Nat) (firstDiff : Option Nat) (s : State) : State :=
  match (s.lane n).diag with
  | some g =>
    let g1 := { g with
      sectorsCompared := g.sectorsCompared + g.blockCount
      mismatches := min max16 (g.mismatches + tally)
      firstMismatch := g.firstMismatch.or firstDiff }
    let pageEnd := 64 * g.page + sectorsInPage (imageSectors s g.slot) g.page
    if g.blockStart + 32 < pageEnd then diagQueue n (g.blockStart + 32) (s.updLane n fun l => { l with diag := some g1 })
    else
      let s1 := unpinKind n .diagnostic (s.updLane n fun l => { l with diag := some { g1 with pagesDone := g.pagesDone + 1 } })
      if g.page < g.lastPage then
        diagPage n (s1.updLane n fun l =>
          { l with diag := some { g1 with pagesDone := g.pagesDone + 1, page := g.page + 1, blockCount := 0 } })
      else diagEnd n (if g1.mismatches = 0 then .pass else .mismatch) s1
  | none => s

end Sys2Proof.Machine
end

