-- ==== Sys2Proof/Machine/Transport.lean ====
section
/-! DEFINITION. The Disc Transport (chapter 7): the gripper, moves, picks, tray exchanges, drops, redirections, faults and their
disposal, selection, STOP, homing and the orphan sweep. -/

namespace Sys2Proof.Machine

/-! ### The current task -/

/-- The arm is carrying out its task. -/
def armMoving (s : State) : Bool := decide (s.transport.arm = .moving)

/-- The current task changed. -/
def updTask (f : ArmTask → ArmTask) (s : State) : State :=
  changeArm (fun t => { t with current := t.current.map f }) s

/-- The phase of the current task. -/
def setPhase (p : ArmPhase) (s : State) : State := updTask (fun c => { c with phase := p }) s

/-- The timer of a move started now (R131). -/
def startTimer (s : State) : State := { s with transport := { s.transport with timer := some s.now } }

/-- The timer of a move started where its first rise has not started it yet (R131; assumption log 51). -/
def keepTimer (s : State) : State := if s.transport.timer.isSome then s else startTimer s

/-- The timer of a move stopped (R131). -/
def stopTimer (s : State) : State := { s with transport := { s.transport with timer := none } }

/-- The station a way leads to. -/
def ArmTask.target (c : ArmTask) (toDest : Bool) : StationNo := if toDest then c.task.dest else c.task.source

/-- The lane a lane's task is for. -/
def ArmTask.lane (c : ArmTask) : Option LaneNo := laneOfRequester c.task.requester

/-- The gripper closed or opened, with its sensors read (R130). -/
def setGripper (closed : Bool) (sense : Sensors) (s : State) : State :=
  changeArm (fun t =>
    { t with gripperClosed := closed, discPresent := sense.discPresent, thicknessTwo := sense.thicknessTwo }) s

/-- The gripper opened for a descent that is to grip, with its sensors read (R130, R132). -/
def openForGrip (sense : Sensors) (s : State) : State :=
  if s.transport.gripperClosed then setGripper false sense s else s

/-- A disc the gripper holds goes to a new place. -/
def setLocation (i : DiscNo) (l : Location) (s : State) : State := updDisc i (fun r => { r with location := l }) s

/-- A move has ended: the status shows the positions as they now stand (R130). -/
def showPositions (s : State) : State :=
  changeArm (fun t => { t with shownLift := t.liftPos, shownSwing := t.swingPos }) s

/-- The positions of the arm's axes. -/
def setLift (h : Nat) (s : State) : State := { s with transport := { s.transport with liftPos := h } }
def setSwing (p : Nat) (s : State) : State := { s with transport := { s.transport with swingPos := p } }

/-- The descent to a tray or the rise in progress finds the lift at its target (R131). -/
def stepEnded (s : State) : Bool :=
  armMoving s &&
    match s.transport.current with
    | some c =>
      match c.phase with
      | .descend d => decide (s.transport.liftPos = (s.station (c.target d)).lift)
      | .rise _ => decide (s.transport.liftPos = 0)
      | _ => false
    | none => false

/-- A step that finds the axis already at its target ends at once (R131). -/
def endAtOnce (s : State) : State := if stepEnded s then s.emit .stepTest else s

/-! ### Moves (R131, R134 to R136) -/

/-- The carry waits for its FULL spindle (R136); in STARTING an orphan is dropped even on a FULL one (R146). -/
def waitsForSpindle (s : State) (c : ArmTask) : Bool :=
  (s.entry c.task.dest).full &&
    !(decide (s.port.part = .starting) && match c.cargo with | some (.orphan _) => true | _ => false)

/-- The tray is asked to be offered: the printer to present it, or the lane to open it (R134, R135). -/
def askTray (c : ArmTask) (k : StationNo) (s : State) : State :=
  match laneOfTray k with
  | some n => laneAskOpen n (decide (c.task.kind = .load)) s
  | none => askPresent s

/-- The swing has ended, with the sensors as it reads them: above a tray the arm waits for the offer, unless its disc was decided REJECTED
on the way (R137); above a spindle it searches (R131, R132, R136). -/
def arriveAt (toDest : Bool) (sense : Sensors) (s : State) : State :=
  match s.transport.current with
  | some c =>
    let k := c.target toDest
    if isTray k then
      let s1 := showPositions (stopTimer (setPhase (.waitTray toDest) s))
      if c.redirect then s1.emit .armRejected else askTray c k s1
    else setPhase (.search toDest) (if toDest then s else openForGrip sense s)
  | none => s

/-- A move to a station begins: its lift, its swing, or the descent where both are at their targets (R131). A carry to a FULL
spindle does not begin (R136). -/
def startApproach (toDest : Bool) (sense : Sensors) (s : State) : State :=
  match s.transport.current with
  | some c =>
    if toDest && waitsForSpindle s c then stopTimer (setPhase .waitFull s)
    else if s.transport.liftPos ≠ 0 then keepTimer (setPhase (.lift toDest) s)
    else if s.transport.swingPos ≠ (s.station (c.target toDest)).swing then keepTimer (setPhase (.swing toDest) s)
    else arriveAt toDest sense (keepTimer s)
  | none => s

/-- A move that begins where no command carries the sensors' levels: they are free values (assumption log 23). -/
def beginApproach (toDest : Bool) (s : State) : State := startApproach toDest s.sensed s.draw

/-! ### Redirection to the reject spindle (R137, R139) -/

/-- The task turned into a reject carry: its claim cleared, the lane of a LOAD told that its load is withdrawn (R133, R137,
R139). -/
def makeRejectCarry (thenFaulted : Bool) (s : State) : State :=
  match s.transport.current with
  | some c =>
    let s1 := if isTray c.task.dest then setClaim c.task.dest false s else s
    let s2 := updTask (fun x => { x with task := { x.task with dest := stationReject }, redirect := false }) s1
    match c.task.kind, laneOfTray c.task.dest, c.cargo with
    | .load, some n, some (.disc i) => laneWithdrawn n i thenFaulted s2
    | _, _, _ => s2
  | none => s

/-- A reject carry made of the task, and begun (R137). -/
def turnToReject (s : State) : State := beginApproach true (makeRejectCarry false s)

/-- A record has been decided REJECTED. -/
def isRejected (s : State) (i : DiscNo) : Bool :=
  match s.disc i with
  | some r => decide (r.outcome = .rejected)
  | none => false

/-- The disc is PASSED. -/
def isPassed (s : State) (i : DiscNo) : Bool :=
  match s.disc i with
  | some r => decide (r.outcome = .passed)
  | none => false

/-- TR takes the rejection of the disc a LOAD carries (R137): above the tray at once; otherwise at the end of the move in progress. An arm
that is STOPPED, FAULTED or HOMING keeps it until it takes the task up again (`resumeTask`): its lane keeps its state and its tray, and
waits for the arm's next request (R66, R138, R140; assumption log 77). -/
def armRejected (s : State) : State :=
  match s.transport.current with
  | some c =>
    match c.task.kind, c.cargo with
    | .load, some (.disc i) =>
      if isTray c.task.dest && isRejected s i then
        if armMoving s && decide (c.phase = .waitTray true) then turnToReject s
        else updTask (fun x => { x with redirect := true }) s
      else s
    | _, _ => s
  | none => s

/-! ### The end of a task -/

/-- The lane or the printer is told that it may close, or that its disc is taken (R134, R135). -/
def tellClosed (ribbonOut : Bool) (s : State) : State :=
  match s.transport.current with
  | some c =>
    if c.tellClose then
      let s1 := updTask (fun x => { x with tellClose := false }) s
      match c.task.kind, c.lane with
      | .load, some n | .unloadLane, some n => laneToldClose n s1
      | .unloadPrinter, _ | .sweepPrinter, _ => printerTaken ribbonOut s1
      | _, _ => s1
    else s
  | none => s

/-- A step of the orphan sweep has ended (R146). -/
def markSweep (kind : TaskKind) (t : Transport) : Transport :=
  match kind with
  | .sweepGripper => { t with sweep := t.sweep.map fun w => { w with gripperDone := true } }
  | .sweepPrinter => { t with sweep := t.sweep.map fun w => { w with printerDone := true } }
  | _ => t

/-- The arm enters IDLE with no task; what waits for that is tested (R129, R146, R178). -/
def armIdle (s : State) : State :=
  (((stopTimer (changeArm (fun t => { t with current := none, arm := .idle }) s)).emit .select).emit .stopTest).emit .sweepTest

/-- The current task ends (R128). -/
def endTask (s : State) : State :=
  match s.transport.current with
  | some c => armIdle { s with transport := markSweep c.task.kind s.transport }
  | none => armIdle s

/-- A lane has its tray lost, or withdraws its UNLOAD, before the grip: the arm gives the task up, rising first if it has
descended (R135). The step in progress runs to its end first (DESIGN CHOICE, assumption log 65); an arm that is not MOVING drops the task
at once and keeps its state (DESIGN CHOICE, assumption log 75). -/
def giveUpUnload (n : LaneNo) (s : State) : State :=
  match s.transport.current with
  | some c =>
    if c.task.kind = .unloadLane ∧ c.lane = some n ∧ c.cargo = none ∧ ¬ c.finished then
      let s1 := if isTray c.task.dest then setClaim c.task.dest false s else s
      if armMoving s then
        match c.phase with
        | .waitTray _ => endTask s1
        | _ => updTask (fun x => { x with finished := true, tellClose := false }) s1
      else changeArm (fun t => { t with current := none }) s1
    else s
  | none => s

/-! ### Picks (R132, R133, R134) -/

/-- The discs a pick lifted leave the input spindle's count (R125). -/
def countPicked (k : StationNo) (n : Nat) (s : State) : State :=
  changeSpindle k (fun e => { e with count := e.count - n }) s

/-- A pick of a single disc is reported, and the arm rises: the move that carries the disc away begins (R131, R134). -/
def reportPick (s : State) : State :=
  match s.transport.current with
  | some c =>
    match c.lane with
    | some n =>
      match (s.lane n).disc with
      | some d =>
        let s1 := updTask (fun x => { x with cargo := some (.disc d.index), unreported := false, phase := .rise false }) s
        pickOne n (countPicked c.task.source 1 (startTimer s1))
      | none => s
    | none => s
  | none => s

/-- The gripper holds a double-fed pair, reported to JC with the LOAD queued again at its old position; the task becomes the
pair's reject carry (R133). -/
def reportPair (s : State) : State :=
  match s.transport.current with
  | some c =>
    match c.lane with
    | some n =>
      match (s.lane n).disc with
      | some d =>
        let s1 := updTask (fun x => { x with cargo := some (.pair d.index), unreported := false, phase := .rise false }) s
        let s2 := putTask { c.task with faults := 0 } (countPicked c.task.source 2 (startTimer s1))
        makeRejectCarry false (pickPair n s2)
      | none => s
    | none => s
  | none => s

/-- The search found the floor: the spindle is EMPTY, the pick is reported, the arm rises and the task ends (R125, R132). The report is
made at the floor, before the rise that R132 names first (DESIGN CHOICE, assumption log 79). -/
def reportEmpty (s : State) : State :=
  match s.transport.current with
  | some c =>
    let s1 := changeSpindle c.task.source (fun e => { e with count := 0, empty := true }) s
    let s2 := (logEntry .inputEmpty c.task.source.val [] s1).emit .stalls
    let s3 := updTask (fun x => { x with finished := true, phase := .rise false }) (setClaim c.task.dest false (stopTimer s2))
    match c.lane with
    | some n => pickNone n s3
    | none => s3
  | none => s

/-! ### Drops (R136, R125) -/

/-- Discs dropped on the output or reject spindle: the count, and FULL when a drop brings it to the capacity (R125). -/
def countDropped (k : StationNo) (n : Nat) (s : State) : State :=
  let cap := (s.station k).capacity
  let reached := !(s.entry k).full && decide (cap ≤ (s.entry k).count + n)
  let s1 := changeSpindle k (fun e => { e with count := min cap (e.count + n), full := e.full || reached }) s
  if reached then (logEntry (if k = stationOutput then .outputFull else .rejectFull) k.val [] s1).emit .stalls else s1

/-- The discs finished good counter of the lane used (R81, R136). -/
def countLaneGood (r : DiscRecord) (s : State) : State :=
  match recordLane r with
  | some n =>
    s.updLane n fun l => { l with counters := { l.counters with discsGood := l.counters.discsGood.advance max16 } }
  | none => s

/-- The counters of a good disc (R14). -/
def Job.countGood (j : Job) : Job := { j with good := j.good + 1, inFlight := j.inFlight - 1 }

/-- A PASSED disc dropped on the output spindle (R14, R37, R81, R136). -/
def dropGood (i : DiscNo) (s : State) : State :=
  match s.disc i with
  | some r =>
    let s1 := countLaneGood r
      (updDisc i (fun x => { x with outcome := .good, location := .output, droppedAt := stampOnce x.droppedAt s.now }) s)
    match recordSlot r with
    | some j => testCounts j (logEntry .discGood i.val [] (changeJob j Job.countGood s1))
    | none => logEntry .discGood i.val [] s1
  | none => s

/-- A REJECTED disc or pair dropped on the reject spindle (R14, R37). -/
def dropReject (i : DiscNo) (s : State) : State :=
  updDisc i (fun x => { x with location := .reject, droppedAt := stampOnce x.droppedAt s.now }) s

/-- The byte of an orphan's source: its station, or 255 for the gripper (11.8). -/
def orphanSource (k : Option StationNo) : Nat :=
  match k with
  | some x => x.val
  | none => 255

/-- The drop is reported, the count advances, and the arm rises (R136). -/
def reportDrop (s : State) : State :=
  match s.transport.current with
  | some c =>
    let k := c.task.dest
    let s1 :=
      match c.cargo with
      | some (.disc i) => countDropped k 1 (if k = stationOutput then dropGood i s else dropReject i s)
      | some (.pair i) => countDropped k 2 (dropReject i s)
      | some (.orphan src) => countDropped k 1 (logEntry .orphanSwept 0 (byte (orphanSource src)) s)
      | none => s
    updTask (fun x => { x with cargo := none, finished := true, phase := .rise true }) (stopTimer s1)
  | none => s

/-! ### Faults (R138, R139, R145) -/

/-- A lane's UNLOAD is given up at its second fault with no disc held: a PASSED disc is decided REJECTED with DRIVE_FAULT, by steps 1, 2
and 4 of an early end (R79; no state of an unload sends ABORT), and the lane enters FAULTED holding the disc by its record (R139). A disc
already REJECTED has had its early end. -/
def unloadGivenUp (n : LaneNo) (s : State) : State :=
  let s1 := match (s.lane n).disc with
    | some d =>
      decideRejected d.index .driveFault 0 id
        (if isPassed s d.index then endEarly n s else s)
    | none => s
  (enterLane n .faulted (s1.updLane n fun l => { l with orphan := false })).emit .sweepTest

/-- A tray stands OCCUPIED without a disc index (R124, R139). -/
def occupiedUnknown (e : StationEntry) : Bool := decide (e.occupancy = .occupied) && e.disc.isNone

/-- The task is disposed of at its second fault (R139); the lane of a LOAD that becomes a reject carry is told here, at the failure (DESIGN
CHOICE, assumption log 77). -/
def disposeTask (s : State) : State :=
  match s.transport.current with
  | some c =>
    if c.finished then s
    else
      match c.cargo with
      | some (.disc i) =>
        makeRejectCarry (occupiedUnknown (s.entry c.task.dest)) (decideRejected i .transportFault 0 id s)
      | some _ => s
      | none =>
        if c.unreported then stopTimer (reportPair s)
        else
          let s1 := if isTray c.task.dest then setClaim c.task.dest false s else s
          match c.task.kind, c.lane with
          | .load, some n => pickNone n (changeArm (fun t => { t with current := none }) s1)
          | .unloadLane, some n => unloadGivenUp n (changeArm (fun t => { t with current := none }) s1)
          | _, _ => s
  | none => s

/-- The station the task's move is bound for; a LOAD's rise from its spindle carries the disc away. -/
def boundFor (c : ArmTask) : StationNo :=
  match c.phase with
  | .lift d | .swing d | .waitTray d | .descend d | .search d => c.target d
  | .rise d => c.target (d || decide (c.task.kind = .load))
  | .shake _ => c.task.source
  | .waitFull => c.task.dest

/-- ARM_FAULT's detail: cause, task kind, requester, station, fault count, gripper holds a disc (R138). The requester takes one byte, as in
the transport status (11.7), and the flag one byte, bit 0, where 11.8 gives them no width (PRESUMED, assumption log 59); the station is
the one the move was bound for (DEDUCED, assumption log 18). -/
def faultDetail (cause : ArmCause) (c : Option ArmTask) (faults : Nat) (holds : Bool) : List Byte :=
  match c with
  | some c =>
    byte cause.code ++ byte c.task.kind.code ++ byte c.task.requester.val ++ byte (boundFor c).val ++ half faults ++
      byte (flagByte [holds])
  | none => byte cause.code ++ [0, 0, 0] ++ half 0 ++ byte (flagByte [holds])

/-- The part FAULTED by a failure in STARTING (R145). -/
def failStarting (s : State) : State := if s.port.part = .starting then setPart .faulted s else s

/-- A move fails (R138): the positions become invalid, the gripper stays, the fault is counted, a second one disposes of the task
(R139), the arm enters FAULTED and ARM_FAULT is logged. At a first failure the rejection of the disc a LOAD carries waits for the arm's
next request (R138; assumption log 77). -/
def armFail (cause : ArmCause) (s : State) : State :=
  match s.transport.current with
  | some c =>
    let s1 := stopTimer (changeArm (fun t => { t with posValid := false }) s)
    let s2 :=
      if c.task.faults = 0 then updTask (fun x => { x with task := { x.task with faults := 1 } }) s1 else disposeTask s1
    failStarting
      (logEntry .armFault 0 (faultDetail cause (some c) 1 s.transport.discPresent)
        (changeArm (fun t => { t with arm := .faulted, lastCause := some cause }) s2))
  | none => s

/-! ### The descents' ends (R132 to R136) -/

/-- The gripper closes at a spindle after contact (R132). -/
def gripAtSpindle (sense : Sensors) (s : State) : State :=
  let s1 := setGripper true sense s
  if !sense.discPresent then armFail .gripMiss s1
  else if sense.thicknessTwo then
    startTimer (updTask (fun x => { x with unreported := true, phase := .shake 1 }) s1)
  else reportPick s1

/-- The gripper opens on a spindle (R136). -/
def releaseAtSpindle (sense : Sensors) (s : State) : State :=
  let s1 := setGripper false sense s
  if sense.discPresent then armFail .releaseFail s1 else reportDrop s1

/-- The disc a grip at a tray takes: the lane's or the printer's, by its record, or an orphan (R135). -/
def cargoAt (s : State) (c : ArmTask) : Cargo :=
  match c.task.kind, c.lane with
  | .unloadLane, some n =>
    match (s.lane n).disc with
    | some d => .disc d.index
    | none => .orphan (some c.task.source)
  | .unloadPrinter, _ =>
    match s.printer.disc with
    | some (.disc d) => .disc d.index
    | _ => .orphan (some c.task.source)
  | _, _ => .orphan (some c.task.source)

/-- A grip at a tray is reported (R135): the record's location becomes ARM, the tray EMPTY; the arm rises. -/
def reportGrip (c : ArmTask) (s : State) : State :=
  let cargo := cargoAt s c
  let s1 := match cargo with
    | .disc i | .pair i => setLocation i .arm s
    | .orphan _ => s
  let s2 := setTray c.task.source .empty none s1
  let s3 := match laneOfTray c.task.source with
    | some n => s2.updLane n fun l => { l with inTray := false }
    | none => s2
  updTask (fun x => { x with cargo := some cargo, tellClose := true, phase := .rise false }) s3

/-- An orphan taken as gone: the tray is EMPTY, the lane or the printer is told after the rise, and the task ends (R135). -/
def reportGone (c : ArmTask) (s : State) : State :=
  updTask (fun x => { x with finished := true, tellClose := true, phase := .rise false }) (setTray c.task.source .empty none s)

/-- The sweep's grip at the printer has read no disc: the gripper opens and the arm rises (R146); the tray is marked EMPTY after the
rise (`sweptTray`). -/
def sweepFindsNone (s : State) : State :=
  updTask (fun x => { x with finished := true, tellClose := false, phase := .rise false }) (setGripper false s.sensed s.draw)

/-- The gripper closes at a tray (R135, R146). It stays closed on nothing after an orphan taken as gone, but in the sweep, which opens it
(R146; DESIGN CHOICE, assumption log 66). An orphan that is not read is gone where the map shows its tray OCCUPIED too, which R135's first
bullet would make a GRIP_MISS (DESIGN CHOICE, assumption log 70). -/
def gripAtTray (sense : Sensors) (s : State) : State :=
  match s.transport.current with
  | some c =>
    let s1 := setGripper true sense s
    if sense.discPresent then reportGrip c s1
    else
      match c.task.kind, cargoAt s c with
      | .sweepPrinter, _ => sweepFindsNone s1
      | _, .orphan _ => reportGone c s1
      | _, _ => armFail .gripMiss s1
  | none => s

/-- A placement is reported (R134, R135): the location, the tray's entry with its claim clear, and the lane's or the printer's
part; the arm rises. -/
def reportPlaced (c : ArmTask) (i : DiscNo) (s : State) : State :=
  let k := c.task.dest
  let placed := fun (t : State) => changeEntry k (fun e => { e with occupancy := .occupied, disc := some i, claim := false }) t
  let rise := fun (tell : Bool) (t : State) =>
    updTask (fun x => { x with cargo := none, finished := true, tellClose := tell, phase := .rise true }) t
  match laneOfTray k with
  | some n => rise true ((placed (setLocation i (.lane n) s)).updLane n fun l => { l with inTray := true })
  | none =>
    match (s.disc i).bind recordSlot with
    | some j => rise false (printerPlaced ⟨i, j⟩ (placed (setLocation i .printer s)))
    | none => rise false (placed (setLocation i .printer s))

/-- The gripper opens at a tray (R134). -/
def releaseAtTray (sense : Sensors) (s : State) : State :=
  match s.transport.current with
  | some c =>
    let s1 := setGripper false sense s
    if sense.discPresent then armFail .releaseFail s1
    else
      match c.cargo with
      | some (.disc i) => reportPlaced c i s1
      | _ => s1
  | none => s

/-- A tray is offered: the lane reports it open with the drive's disc present flag, or the printer presents it (R134, R135). A
tray opened for a load that reports a disc is OCCUPIED and fails the task. An offer that comes while the arm does not wait above the tray
is not taken, and its disc present flag does not reach the map (DESIGN CHOICE, assumption log 67). -/
def trayOffered (k : StationNo) (present : Bool) (s : State) : State :=
  match s.transport.current with
  | some c =>
    match c.phase with
    | .waitTray toDest =>
      if armMoving s && decide (c.target toDest = k) then
        if toDest && present then armFail .trayOccupied (setTray k .occupied none s)
        else endAtOnce (startTimer (setPhase (.descend toDest) (if toDest then s else openForGrip s.sensed s.draw)))
      else s
    | _ => s
  | none => s

/-- The printer answers that its tray is presented (R149). -/
def armPresented (s : State) : State := trayOffered stationPrinter false s

/-- The printer answers in STARTING that its tray is lost: the arm gives up its grip there and the sweep goes on (R165). -/
def armPresentLost (s : State) : State :=
  match s.transport.current with
  | some c =>
    if c.task.kind = .sweepPrinter ∧ armMoving s ∧ c.phase = .waitTray false then endTask s else s
  | none => s

/-- The rise from an input spindle is the lift of the move that carries the disc away (R134; assumption log 51). -/
def pickRises (c : ArmTask) : Bool := decide (c.task.kind = .load) && decide (c.phase = .rise false) && !c.finished

/-- The sweep leaves the printer tray EMPTY, once its arm has risen from it (R146). -/
def sweptTray (c : ArmTask) (s : State) : State :=
  if c.task.kind = .sweepPrinter then setTray stationPrinter .empty none s else s

/-- The arm is back at height 0 (R134 to R136, R146): the tray is told; the task ends, turns to the reject spindle or carries on. -/
def afterRise (sense : Sensors) (s : State) : State :=
  match s.transport.current with
  | some c =>
    let s1 := tellClosed sense.ribbonOut (if pickRises c then s else stopTimer s)
    if c.finished then endTask (sweptTray c s1) else if c.redirect then turnToReject s1 else startApproach true sense s1
  | none => s

/-! ### The ends of steps (R131, R134, R135) -/

/-- The lift has reached height 0: the task that is given up ends; else the swing begins, where its axis is not at its target yet. -/
def liftDone (toDest : Bool) (c : ArmTask) (sense : Sensors) (s : State) : State :=
  let s1 := setLift 0 s
  if c.finished then endTask (showPositions s1)
  else if s1.transport.swingPos ≠ (s1.station (c.target toDest)).swing then setPhase (.swing toDest) s1
  else arriveAt toDest sense s1

/-- The swing has reached the station: the task that is given up ends; else the arm has arrived above it. -/
def swingDone (toDest : Bool) (c : ArmTask) (sense : Sensors) (s : State) : State :=
  let s1 := setSwing (s.station (c.target toDest)).swing s
  if c.finished then endTask (showPositions s1) else arriveAt toDest sense s1

/-- The descent to a tray has ended: a release, a grip, or the way back up of a task given up or bound for the reject
spindle (R134, R135, R137). -/
def descentDone (toDest : Bool) (c : ArmTask) (sense : Sensors) (s : State) : State :=
  let s1 := setLift (s.station (c.target toDest)).lift s
  endAtOnce
    (if c.finished ∨ c.redirect then setPhase (.rise toDest) s1
     else if toDest then releaseAtTray sense s1
     else gripAtTray sense s1)

/-- The rise has ended at height 0. -/
def riseDone (sense : Sensors) (s : State) : State := afterRise sense (showPositions (setLift 0 s))

/-- A step that found its axis at its target ends, with the sensors' levels free values (R131; assumption log 53). -/
def stepTest (s : State) : State :=
  if stepEnded s then
    match s.transport.current with
    | some c =>
      match c.phase with
      | .descend d => descentDone d c s.sensed s.draw
      | .rise _ => riseDone s.sensed s.draw
      | _ => s
    | none => s
  else s

/-! ### Selection (R129) -/

/-- A queued task is eligible (R129). In STARTING an orphan goes to a FULL reject spindle (R146). -/
def eligible (s : State) (t : Task) : Bool :=
  match t.kind with
  | .load =>
    !(s.entry t.source).empty && !(s.entry t.dest).claim && decide ((s.entry t.dest).occupancy ≠ .occupied)
  | _ =>
    if t.dest = stationPrinter then
      !(s.entry t.dest).claim && decide ((s.entry t.dest).occupancy = .empty) && decide (s.printer.state = .empty)
    else !(s.entry t.dest).full || decide (s.port.part = .starting)

/-- The requesters' tasks of a kind that are eligible, in requester order. -/
def eligibleTasks (s : State) (kind : TaskKind) : List Task :=
  (s.transport.queue.toList.filterMap id).filter fun t => decide (t.kind = kind) && eligible s t

/-- The oldest of some tasks, the lower requester among equal positions (R128, R129). -/
def oldestTask : List Task → Option Task
  | [] => none
  | t :: rest =>
    match oldestTask rest with
    | none => some t
    | some b => if t.position < b.position ∨ (t.position = b.position ∧ t.requester ≤ b.requester) then some t else some b

/-- The task the arm selects (R129): the printer's UNLOAD, else the oldest lane UNLOAD, else the oldest LOAD. -/
def selectTask (s : State) : Option Task :=
  ((oldestTask (eligibleTasks s .unloadPrinter)).or (oldestTask (eligibleTasks s .unloadLane))).or
    (oldestTask (eligibleTasks s .load))

/-- The arm takes a task as its current one and enters MOVING. -/
def takeTask (t : Task) (cargo : Option Cargo) (s : State) : State :=
  changeArm (fun tr => { tr with
    current := some ⟨t, cargo, .lift cargo.isSome, false, false, false, false⟩
    arm := .moving
    queue := match t.kind with
      | .sweepGripper | .sweepPrinter => tr.queue
      | _ => tr.queue.set t.requester.val none t.requester.isLt }) s

/-- A selected task is begun: its destination tray is claimed (R127, R129). -/
def beginTask (t : Task) (s : State) : State :=
  beginApproach false (takeTask t none (if isTray t.dest then setClaim t.dest true s else s))

/-- Step 1 of the sweep: a disc the gripper reads is carried to the reject spindle (R146). -/
def sweepGripperTask : Task := ⟨.sweepGripper, requesterPrinter, stationReject, stationReject, 0, 0⟩

/-- Step 2 of the sweep: a grip at the printer tray (R146). -/
def sweepPrinterTask : Task := ⟨.sweepPrinter, requesterPrinter, stationPrinter, stationReject, 0, 0⟩

/-- What an IDLE arm does next (R129, R146): the sweep's steps first, then the selected task. -/
def idleArm (s : State) : State :=
  match s.transport.sweep with
  | some w =>
    if ¬ w.gripperDone ∧ s.transport.discPresent then
      beginApproach true (takeTask sweepGripperTask (some (.orphan none)) s)
    else if ¬ w.printerDone then
      beginApproach false
        (takeTask sweepPrinterTask none { s with transport := markSweep .sweepGripper s.transport })
    else
      match selectTask s with
      | some t => beginTask t s
      | none => s
  | none =>
    match selectTask s with
    | some t => beginTask t s
    | none => s

/-- The arm's selection, and a carry that waited for a FULL spindle (R129, R136). A STOPPED part's arm selects nothing (R178). -/
def armSelect (s : State) : State :=
  if s.port.part = .stopped then s
  else
    match s.transport.arm, s.transport.current with
    | .idle, none => idleArm s
    | .moving, some c => if c.phase = .waitFull ∧ ¬ waitsForSpindle s c then beginApproach true s else s
    | _, _ => s

/-- The part enters STOPPED when the stop pending mark is set, the arm is IDLE and its queue is empty (R178). -/
def stopTest (s : State) : State :=
  if s.port.stopPending ∧ s.transport.arm = .idle ∧ queueEmpty s then
    putHeader { s with port := { s.port with stopPending := false, part := .stopped } }
  else s

/-! ### Homing and restart (R142, R143) -/

/-- Homing begins (R142); the positions are valid only in IDLE and MOVING (R131). -/
def beginHoming (s : State) : State :=
  startTimer (changeArm (fun t => { t with arm := .homing, posValid := false, homing := some .lift, homeDue := false }) s)

/-- The current task is restarted after a homing (R143), which has lifted the arm to height 0. A LOAD whose disc was decided REJECTED
meanwhile becomes the reject carry now, and its lane is told (R66, R137; assumption log 77). A thickness test begins with its first shake,
with no reading before it (DESIGN CHOICE, assumption log 69). -/
def resumeTask (sense : Sensors) (s : State) : State :=
  match s.transport.current with
  | none => armIdle s
  | some c =>
    let s1 := changeArm (fun t => { t with arm := .moving }) s
    if c.finished then endTask (sweptTray c (tellClosed sense.ribbonOut s1))
    else if c.redirect then startApproach true sense (makeRejectCarry false s1)
    else if c.cargo.isSome then startApproach true sense (tellClosed sense.ribbonOut s1)
    else if c.unreported then startTimer (setPhase (.shake 1) s1)
    else startApproach false sense s1

/-! ### The orphan sweep (R88, R146) -/

/-- A lane begins its start-up inventory (R88, R105). -/
def beginInventory (s : State) (n : LaneNo) : State :=
  if (s.lane n).state = .unknown then
    if (s.link n).up then
      match (s.lane n).waits.tray with
      | some w => setWaits n (fun x => { x with tray := some { w with purpose := .stale true } }) s
      | none => sendTray n .query .inventory s
    else faultLane n .linkDown none s
  else s

/-- The orphan sweep begins (R146). -/
def beginSweep (s : State) : State :=
  armIdle (allLanes.foldl beginInventory { s with transport := { s.transport with sweep := some ⟨false, false⟩ } })

/-- A lane's inventory is complete and it holds no orphan (R88, R146). -/
def inventoryDone (l : Lane) : Bool := decide (l.state = .idle) || decide (l.state = .offline) || decide (l.state = .faulted)

/-- The sweep is done when its steps and every inventory are: the part enters RUNNING, and the IDLE lanes take part in dispatch
(R88, R146). -/
def sweepTest (s : State) : State :=
  if s.port.part = .starting ∧ s.transport.sweep = some ⟨true, true⟩ ∧ s.lanes.toList.all inventoryDone then
    ((setPart .running { s with transport := { s.transport with sweep := none } }).emit .dispatch).emit .stalls
  else s

/-! ### STOP (R140) -/

/-- The STOP input stops the arm: STOPPED, positions invalid, the move timer and a homing dropped, the task kept; an UNHOMED arm
stays UNHOMED. In STARTING the arm homes again by itself at the negation, once the roster clean is done (R145). A LOAD whose disc was
decided REJECTED in the move that STOP cuts keeps that mark: its lane is told when the arm takes the task up again (R66, R140; assumption
log 77). -/
def stopArm (s : State) : State :=
  stopTimer (changeArm (fun t =>
    { t with arm := if t.arm = .unhomed then .unhomed else .stopped, posValid := false, homing := none,
             homeDue := t.homeDue || (decide (s.port.part = .starting) && s.roster.clean.isNone) }) s)

end Sys2Proof.Machine
end

