-- ==== Sys2Proof/Machine/Bridges.lean ====
section
/-! DEFINITION. The bridges of the three motors (R144, R148): how each motor is driven by the part's state, its four legs with their
dead time, and the twenty-four gate outputs. -/

namespace Sys2Proof.Machine

/-- How a motor's bridge is driven: every switch off, the step sequence, or held at a duty in percent. -/
inductive MotorDrive where
  | off
  | stepping
  | held (duty : Nat)
  deriving DecidableEq, Repr

/-- The phase moves the lift axis. -/
def ArmPhase.lifts : ArmPhase → Bool
  | .lift _ | .descend _ | .search _ | .shake _ | .rise _ => true
  | .swing _ | .waitTray _ | .waitFull => false

/-- The phase moves the swing axis. -/
def ArmPhase.swings : ArmPhase → Bool
  | .swing _ => true
  | _ => false

/-- The drive of an arm motor (R144), by whether its axis is the one that steps. -/
def armMotor (s : State) (steps : ArmPhase → Bool) (homes : HomingStep) : MotorDrive :=
  if s.pins.stop then .off
  else
    match s.transport.arm with
    | .unhomed | .stopped => .off
    | .idle | .faulted => .held s.transport.holdDuty
    | .homing => if s.transport.homing = some homes then .stepping else .held s.transport.holdDuty
    | .moving =>
      match s.transport.current with
      | some c => if steps c.phase then .stepping else .held s.transport.holdDuty
      | none => .held s.transport.holdDuty

/-- The lift motor's drive (R144). -/
def liftDrive (s : State) : MotorDrive := armMotor s ArmPhase.lifts .lift

/-- The swing motor's drive (R144). -/
def swingDrive (s : State) : MotorDrive := armMotor s ArmPhase.swings .swing

/-- The printer tray motor's drive (R144, R148). -/
def trayDrive (s : State) : MotorDrive :=
  if s.pins.stop then .off
  else if s.printer.move.isSome then .stepping
  else if s.printer.tray = .lost then .off
  else .held s.transport.holdDuty

/-! ### The legs and the gates (R144; assumption log 37) -/

/-- A motor: 0 the lift, 1 the swing, 2 the printer tray. -/
abbrev MotorNo := Fin 3

/-- How a motor is driven. -/
def motorDrive (s : State) (m : MotorNo) : MotorDrive :=
  match m with
  | 0 => liftDrive s
  | 1 => swingDrive s
  | 2 => trayDrive s

/-- A leg of a motor's bridge. -/
def State.leg (s : State) (m : MotorNo) (k : Fin 4) : Leg := s.bridges[m][k]

/-- The switch of a leg that the drive wants on, high set, at a draw: none where the motor is off, and a free value in the step sequence
and in the hold, whose patterns are the bridge drive's own (R131). -/
def wantedSwitch (d : MotorDrive) (m : MotorNo) (k : Fin 4) (n : Nat) : Option Bool :=
  let pattern := fun (duty : Option Nat) =>
    if Config.legOn duty m.val k.val n then some (Config.legHigh duty m.val k.val n) else none
  match d with
  | .off => none
  | .stepping => pattern none
  | .held duty => pattern (some duty)

/-- The units of 62.5 ns in a microsecond, and the greatest dead time in them. -/
def unitsPerMicro : Nat := 16
def deadTimeMax : Nat := 128

/-- For how long a switch has been off, a microsecond on: 0 while it has been on. -/
def offTime (on : Bool) (off : Nat) : Nat := if on then 0 else min deadTimeMax (off + unitsPerMicro)

/-- A leg a microsecond on (R144): a switch that is not wanted turns off, and the wanted one turns on only after its partner has been off
for the dead time. -/
def Leg.after (dead : Nat) (want : Option Bool) (l : Leg) : Leg where
  high := decide (want = some true) && !l.low && (l.high || decide (dead ≤ offTime l.low l.lowOff))
  low := decide (want = some false) && !l.high && (l.low || decide (dead ≤ offTime l.high l.highOff))
  highOff := offTime l.high l.highOff
  lowOff := offTime l.low l.lowOff

/-- The bridges a microsecond on. -/
def driveBridges (s : State) : State :=
  { s with bridges := Vector.ofFn fun m => Vector.ofFn fun k =>
      (s.leg m k).after s.transport.deadTime (wantedSwitch (motorDrive s m) m k s.draws) }.draw

/-- The gate outputs of a leg, high and low (R144): a motor whose drive is off has every switch off at once. -/
def gates (s : State) (m : MotorNo) (k : Fin 4) : Bool × Bool :=
  if motorDrive s m = .off then (false, false) else ((s.leg m k).high, (s.leg m k).low)

/-- A microsecond in which no command is taken: the time base counts it, and the bridges go on (assumption logs 3 and 37). -/
def idleStep (s : State) : State := (driveBridges s).tick

end Sys2Proof.Machine
end

