-- ==== Sys2Proof/Machine/Fill.lean ====
section
/-! DEFINITION. The end of a host read of a fill (R51 to R54, R59), and what the lanes that pin the page are told. -/

namespace Sys2Proof.Machine

/-- The limit of a read (R53), in microseconds. -/
def fillLimit : Nat := 50000

/-- A lane is told that its page is ready (R52): a write pin's copying goes on by itself (R70), a compare begins (R114), a
diagnosis takes its first block (R90). -/
def tellReady (page : LanePin) (n : LaneNo) (s : State) : State :=
  match page.kind with
  | .write => s
  | .compare => referenceReady n s
  | .diagnostic => diagReady n s

/-- A lane is told that its page has failed (R54). -/
def tellFailed (page : LanePin) (n : LaneNo) (s : State) : State :=
  match page.kind with
  | .write => laneReject n .imageFetch 0 id s
  | .compare => referenceFailed n s
  | .diagnostic => diagFailed n s

/-- The lanes on a frame with their pins, in ascending lane order. -/
def pinsOn (s : State) (f : FrameNo) : List (LaneNo × LanePin) :=
  allLanes.filterMap fun n => (pinOn (s.lane n) f).map fun p => (n, p)

/-- Each lane told in turn that its page is ready. -/
def tellAllReady (who : List (LaneNo × LanePin)) (s : State) : State :=
  who.foldl (fun t x => tellReady x.2 x.1 t) s

/-- Each lane told in turn that its page has failed, the unit it frees being granted before the next lane is told (R54, R113). -/
def tellAllFailed (who : List (LaneNo × LanePin)) (s : State) : State :=
  who.foldl (fun t x => laneTurn (tellFailed x.2 x.1 t)) s

/-- A lane's pin removed with its frame (R54). -/
def removePin (x : LaneNo × LanePin) (s : State) : State :=
  s.updLane x.1 fun l => { l with pins := l.pins.filter fun q => decide (q ≠ x.2) }

/-- A fill succeeds (R52); a released frame goes FREE (R59). -/
def fillSucceeds (slot : Fin 8) (x : Fill) (s : State) : State :=
  let who := pinsOn s x.frame
  let s1 :=
    if (s.frame x.frame).released then looseFrame x.frame (s.setFrame x.frame (s.frame x.frame).toFree)
    else s.setFrame x.frame { s.frame x.frame with state := .resident, lastUse := s.now }
  tellAllReady who (feStart (clearFill slot s1))

/-- FETCH_FAULT's detail: the page, the frame, the failure, the lanes told (R54). 11.8 gives no width for a frame number: two bytes, as a
count has (PRESUMED, assumption log 59). -/
def fetchDetail (page : Nat) (f : FrameNo) (how : FetchFailure) (told : Nat) : List Byte :=
  word page ++ half f.val ++ byte how.code ++ half told

/-- The page has failed (R54). -/
def pageFails (slot : Fin 8) (x : Fill) (how : FetchFailure) (s : State) : State :=
  let g := s.frame x.frame
  let who := pinsOn s x.frame
  let s1 := feStart (clearFill slot (s.setFrame x.frame { g with state := .failed, attempts := 2, pinCount := 0 }))
  let s2 := logEntry .fetchFault g.slot.val (fetchDetail g.page x.frame how who.length) s1
  let s3 := tellAllFailed who (who.foldl (fun t p => removePin p t) s2)
  holdJobFor g.slot .imageFetch s3

/-- A released frame whose attempt failed goes FREE, and the lanes that pin it are told (R59). -/
def releasedFails (slot : Fin 8) (x : Fill) (s : State) : State :=
  let who := pinsOn s x.frame
  let s1 := who.foldl (fun t p => removePin p t) (s.setFrame x.frame (s.frame x.frame).toFree)
  tellAllFailed who (feStart (clearFill slot s1))

/-- An attempt fails: the next begins at once, or after the third the page has failed (R53, R54, R59). -/
def attemptFails (slot : Fin 8) (x : Fill) (how : FetchFailure) (s : State) : State :=
  let g := s.frame x.frame
  if g.released then releasedFails slot x s
  else if g.attempts < 2 then
    setFill slot { x with reads := freshReads x.sectors s.now } (s.setFrame x.frame { g with attempts := g.attempts + 1 })
  else pageFails slot x how s

/-- A read of a fill's current attempt completes with its data (R51, R52). -/
def readCompletes (slot : Fin 8) (x : Fill) (read : Nat) (bs : List Byte) (s : State) : State :=
  let stored := fitBytes (readLength x.sectors read) bs
  let s1 := { s with dram := Memory.writeBytes s.dram (131072 * x.frame.val + 4096 * read) stored }
  let x1 := { x with reads := x.reads.modify read fun r => { r with done := true } }
  if x1.reads.all (·.done) then fillSucceeds slot x1 s1 else setFill slot x1 s1

/-- The fill, with its slot, whose current attempt issued a read that has not completed; any other completion is discarded
(R51). -/
def liveRead (s : State) (fill attempt read : Nat) : Option (Fin 8 × Fill × FillRead) :=
  match findFill s fill with
  | some slot =>
    match s.fetch.fills[slot] with
    | some x =>
      match x.reads[read]? with
      | some r => if (s.frame x.frame).attempts = attempt ∧ ¬ r.done then some (slot, x, r) else none
      | none => none
    | none => none
  | none => none

/-- A completion of a host read of a fill (R51 to R53). -/
def fillRead (fill attempt read : Nat) (result : HostRead) (s : State) : State :=
  match liveRead s fill attempt read with
  | some (slot, x, _) =>
    match result with
    | .data bs => readCompletes slot x read bs s
    | .error => attemptFails slot x .readError s
  | none => s

/-- A read of a fill has had no completion for 50 ms (R53). -/
def fillExpired (fill attempt read : Nat) (s : State) : State :=
  match liveRead s fill attempt read with
  | some (slot, x, r) => attemptFails slot x .timeout (s.advanceTo (r.issuedAt + fillLimit))
  | none => s

end Sys2Proof.Machine
end

