-- ==== Sys2Proof/Machine/Write.lean ====
section
/-! DEFINITION. Probing, negotiation, writing, pace review and closing of a lane's disc (R67 to R78): what each drive message and
each timeout of these states does. -/

namespace Sys2Proof.Machine

/-! ### Limits (R102), in microseconds -/

def mediaLimit : Nat := 10000000
def speedLimit : Nat := 2000000
def openLimit : Nat := 2000000
def starvationLimit : Nat := 30000000
def closedLimit : Nat := 180000000
def readLimit : Nat := 30000000
def trayLimit : Nat := 8000000

/-! ### The lane's job -/

/-- The job record the lane's disc belongs to. -/
def laneRecord (s : State) (n : LaneNo) : Option JobRecord :=
  match (s.lane n).disc with
  | some d => (s.job d.slot).record
  | none => none

/-- The image sectors of the lane's job. -/
def laneSectors (s : State) (n : LaneNo) : Nat :=
  match laneRecord s n with
  | some r => r.imageSectors
  | none => 0

/-- The record index and slot of the lane's disc, as numbers. -/
def laneIndex (s : State) (n : LaneNo) : Nat :=
  match (s.lane n).disc with
  | some d => d.index.val
  | none => 0

/-! ### Probing (R67) -/

/-- The lane enters PROBING and sends PROBE (R67). -/
def enterProbing (n : LaneNo) (s : State) : State :=
  setWaits n (fun w => { w with media := some s.now }) (sendMsg n .probe (enterLane n .probing s))

/-- The offered rates kept: those in 75..32,767, ascending, without repeats (R67). -/
def keptRates (rates : List (BitVec 16)) : List Nat :=
  sortBy (fun a b => decide (a < b)) ((rates.map (·.toNat)).filter fun r => decide (75 ≤ r ∧ r ≤ 32767)).eraseDups

/-- The probe checks in order: the reason of the first that fails (R67). -/
def probeFault (r : JobRecord) (mediaClass : Nat) (blank : Bool) (capacity : Nat) (kept : List Nat) : Option RejectReason :=
  if mediaClass ≠ r.mediaClass then some .wrongMedia
  else if !blank then some .notBlank
  else if capacity < r.imageSectors then some .tooSmall
  else if kept = [] then some .noSpeed
  else none

/-- A probe that ends in a rejection: the disc ends, and JC takes the report (R15, R67). -/
def probeFail (n : LaneNo) (why : RejectReason) (code : Nat) (s : State) : State :=
  match (s.lane n).disc with
  | some d => probeRejected d.slot why (laneReject n why code id s)
  | none => s

/-! ### Speeds (R68, R75 to R77) -/

/-- SET_SPEED sent, with its wait of 2,000 ms (R68, R75, R76). -/
def askSpeed (n : LaneNo) (rate : Nat) (why : SpeedPurpose) (s : State) : State :=
  (sendMsg n (.setSpeed rate) s).updLane n fun l => { l with speedReq := some ⟨rate, why, s.now⟩ }

/-- The highest of the rates below a bound. -/
def highestBelow (rates : List Nat) (bound : Nat) : Option Nat := (rates.filter fun r => decide (r < bound)).getLast?

/-- The ceiling of a disc: the smallest of the lane cap, the job's speed cap, where they are not 0, and the highest kept rate
(R68). -/
def discCeiling (laneCap speedCap : Nat) (kept : List Nat) : Nat :=
  let top := kept.getLastD 0
  let a := if speedCap = 0 then top else min speedCap top
  if laneCap = 0 then a else min laneCap a

/-- The lane enters NEGOTIATING: the ceiling is fixed and the highest candidate asked for; with no candidate the disc is rejected
with NO_SPEED (R68). -/
def enterNegotiating (n : LaneNo) (r : JobRecord) (s : State) : State :=
  let top := discCeiling (s.lane n).cap r.speedCap (s.lane n).offered
  let s1 := enterLane n .negotiating (s.updLane n fun l => { l with ceiling := some top })
  match highestBelow (s.lane n).offered (top + 1) with
  | some rate => askSpeed n rate .negotiate s1
  | none => laneReject n .noSpeed 0 id s1

/-- MEDIA (R67). -/
def driveMedia (n : LaneNo) (mediaClass : Nat) (blank : Bool) (capacity : Nat) (rates : List (BitVec 16)) (s : State) : State :=
  if (s.lane n).state = .probing ∧ (s.lane n).waits.media.isSome then
    match (s.lane n).disc, laneRecord s n with
    | some d, some r =>
      let kept := keptRates rates
      let s1 := s.updLane n fun l => { l with offered := kept, waits := { l.waits with media := none } }
      match probeFault r mediaClass blank capacity kept with
      | some why => probeFail n why 0 s1
      | none => enterNegotiating n r (probePassed d.slot s1)
    | _, _ => s
  else strayMessage n s

/-- LANE_SPEED: the disc index, the previous rate, the new rate (R68, R75, R76). The disc index takes one byte of the detail, as in the
status blocks (11.7), where 11.8 gives it no width (PRESUMED, assumption log 59). -/
def logSpeed (n : LaneNo) (old new : Nat) (s : State) : State :=
  logEntry .laneSpeed n.val (byte (laneIndex s n) ++ half old ++ half new) s

/-- Write pins taken on pages in order (R45); a FAILED page ends the disc with IMAGE_FETCH and is a hold cause (R55). -/
def takeWritePins (n : LaneNo) (j : SlotNo) : List Nat → State → State
  | [], s => s
  | p :: rest, s =>
    match pinFinds s j p with
    | .failed => holdJobFor j .imageFetch (laneReject n .imageFetch 0 id s)
    | _ => takeWritePins n j rest (pinPage n .write j p s)

/-- The lane enters WRITING: positions 0, the first write pins, WRITE_OPEN (R45, R69). A disc that a FAILED page has ended sends
none. -/
def enterWriting (n : LaneNo) (j : SlotNo) (sectors : Nat) (s : State) : State :=
  let s1 := enterLane n .writing (s.updLane n fun l => { l with nextCopy := 0, nextSend := 0 })
  let s2 := takeWritePins n j ([0, 1, 2].filter fun p => decide (p < pageCount sectors)) s1
  if (s2.lane n).state = .writing then
    setWaits n (fun w => { w with openAck := some s.now }) (sendMsg n (.writeOpen sectors) s2)
  else s2

/-- The answer names the rate of the outstanding request, in a state that takes it (R77, R99). -/
def answersSpeed (l : Lane) (rate : Nat) : Bool :=
  (decide (l.state = .negotiating) || decide (l.state = .writing)) &&
    match l.speedReq with
    | some q => decide (q.rate = rate)
    | none => false

/-- An accepted rate (R68, R75, R76). -/
def acceptSpeed (n : LaneNo) (q : SpeedReq) (s : State) : State :=
  let old := orZero (s.lane n).rate
  let s1 := s.updLane n fun l => { l with speedReq := none, rate := some q.rate }
  match q.purpose with
  | .negotiate =>
    match (s.lane n).disc with
    | some d => enterWriting n d.slot (laneSectors s n) (logSpeed n 0 q.rate s1)
    | none => s1
  | .downshift =>
    logSpeed n old q.rate (writeLane n (s1.updLane n fun l =>
      { l with totals := { l.totals with downshifts := satInc max16 l.totals.downshifts },
               counters := { l.counters with downshifts := l.counters.downshifts.advance max16 },
               pace := { l.pace with reviews := 0 } }))
  | .upshift =>
    logSpeed n old q.rate (writeLane n (s1.updLane n fun l =>
      { l with totals := { l.totals with upshifts := satInc max16 l.totals.upshifts },
               counters := { l.counters with upshifts := l.counters.upshifts.advance max16 },
               pace := { l.pace with reviews := 0 } }))

/-- A refused or unanswered rate: the next lower one is asked for, or the walk ends (R68, R75, R76). LANE_PACE_FLOOR shows the window gap
count of the pace state as it stands at the end of the walk (R74's g; DEDUCED, assumption log 19), and gives the disc index one byte
(PRESUMED, assumption log 59). -/
def refuseSpeed (n : LaneNo) (q : SpeedReq) (s : State) : State :=
  let s1 := s.updLane n fun l => { l with speedReq := none }
  match q.purpose with
  | .negotiate =>
    match highestBelow (s.lane n).offered q.rate with
    | some rate => askSpeed n rate .negotiate s1
    | none => laneReject n .noSpeed 0 id s1
  | .downshift =>
    match highestBelow (s.lane n).offered q.rate with
    | some rate => askSpeed n rate .downshift s1
    | none =>
      logEntry .lanePaceFloor n.val
        (byte (laneIndex s n) ++ half (orZero (s.lane n).rate) ++ half (s.lane n).pace.windowGaps) s1
  | .upshift => s1.updLane n fun l => { l with pace := { l.pace with reviews := 0 } }

/-- SPEED_ACK (R68, R75 to R77). -/
def driveSpeedAck (n : LaneNo) (rate : Nat) (s : State) : State :=
  match (s.lane n).speedReq with
  | some q => if answersSpeed (s.lane n) rate then acceptSpeed n q s else strayMessage n s
  | none => strayMessage n s

/-- SPEED_REFUSED (R68, R75 to R77). -/
def driveSpeedRefused (n : LaneNo) (rate : Nat) (s : State) : State :=
  match (s.lane n).speedReq with
  | some q => if answersSpeed (s.lane n) rate then refuseSpeed n q s else strayMessage n s
  | none => strayMessage n s

/-! ### Writing (R69 to R72) -/

/-- OPEN_ACK has been taken in WRITING (R69). -/
def writeOpened (l : Lane) : Bool := decide (l.state = .writing) && l.waits.openAck.isNone

/-- The starvation timer runs while OPEN_ACK has been taken, credits are 0 and sectors remain to be sent (R71). -/
def Lane.starve (sectors time : Nat) (l : Lane) : Lane :=
  { l with waits := { l.waits with
      starvation := if writeOpened l ∧ l.credits = 0 ∧ l.nextSend < sectors then some (l.waits.starvation.getD time) else none } }

/-- OPEN_ACK: the write start (R69, R35). -/
def driveOpenAck (n : LaneNo) (s : State) : State :=
  if (s.lane n).state = .writing ∧ (s.lane n).waits.openAck.isSome then
    match (s.lane n).disc with
    | some d =>
      let s1 := updDisc d.index
        (fun r => { r with startRate := (s.lane n).rate, writeStart := stampOnce r.writeStart s.now }) s
      s1.updLane n fun l => ({ l with waits := { l.waits with openAck := none } } : Lane).starve (laneSectors s n) s.now
    | none => s
  else strayMessage n s

/-- CREDIT(n) (R71, R78). -/
def driveCredit (n : LaneNo) (count : Nat) (s : State) : State :=
  if count < 1 ∨ 64 < count then strayMessage n s
  else if writeOpened (s.lane n) then
    s.updLane n fun l => ({ l with credits := min max16 (l.credits + count) } : Lane).starve (laneSectors s n) s.now
  else if (s.lane n).state = .closing then s
  else strayMessage n s

/-- GAP (R72). -/
def driveGap (n : LaneNo) (s : State) : State :=
  if writeOpened (s.lane n) ∨ (s.lane n).state = .closing then
    let s1 := s.updLane n fun l =>
      { l with totals := { l.totals with gaps := satInc max16 l.totals.gaps },
               counters := { l.counters with gaps := l.counters.gaps.advance max16 },
               pace := if l.state = .writing then { l.pace with windowGaps := satInc max16 l.pace.windowGaps } else l.pace }
    match laneRecord s n with
    | some r => if r.maxGaps ≠ 0 ∧ r.maxGaps < (s1.lane n).totals.gaps then laneReject n .gapLimit 0 id s1 else s1
    | none => s1
  else strayMessage n s

/-- The frame of a page that the lane has pinned to write from, where it is RESIDENT (R45, R70). -/
def writeFrame (s : State) (n : LaneNo) (page : Nat) : Option FrameNo :=
  match (s.lane n).pins.find? fun p => decide (p.kind = .write) && decide (p.page = page) with
  | some p =>
    match p.frame with
    | some f => if (s.frame f).state = .resident then some f else none
    | none => none
  | none => none

/-- The lane moves past a page: it is unpinned, and the page three after it is pinned (R45). -/
def movePast (n : LaneNo) (j : SlotNo) (page sectors : Nat) (s : State) : State :=
  let s1 := unpinWrite n page s
  if page + 3 < pageCount sectors then takeWritePins n j [page + 3] s1 else s1

/-- A writing lane copies its next sector into the FIFO (R70). -/
def copySector (n : LaneNo) (s : State) : State :=
  match (s.lane n).disc, writeFrame s n (pageOf (s.lane n).nextCopy) with
  | some d, some f =>
    let x := (s.lane n).nextCopy
    let sectors := laneSectors s n
    if (s.lane n).state = .writing ∧ (s.lane n).fifo.length < 32 ∧ x < sectors then
      let bs := composeSector (jobSubsts s d.slot) (discSerial s d.index) x (frameSector s f x)
      let s1 := s.updLane n fun l => { l with fifo := l.fifo ++ [⟨x, bs⟩], nextCopy := x + 1 }
      if x % 64 = 63 ∨ x + 1 = sectors then movePast n d.slot (pageOf x) sectors s1 else s1
    else s
  | _, _ => s

/-! ### Pace review (R74 to R76) -/

/-- The history byte after a review (R74). -/
def nextHistory (h : BitVec 8) (g : Nat) : BitVec 8 := (h <<< 1) ||| (if 0 < g then 1 else 0)

/-- The rate a review asks for: a downshift, else an upshift (R75, R76). -/
def reviewAsks (l : Lane) (r : JobRecord) : Option (Nat × SpeedPurpose) :=
  let rate := orZero l.rate
  match (if r.gapLimit ≠ 0 ∧ r.gapLimit ≤ l.pace.windowGaps then highestBelow l.offered rate else none) with
  | some lower => some (lower, .downshift)
  | none =>
    if l.pace.history &&& 15 = 0 ∧ 4 ≤ l.pace.reviews ∧ 24 ≤ l.fifo.length then
      match l.offered.find? fun x => decide (rate < x) with
      | some higher => if higher ≤ orZero l.ceiling then some (higher, .upshift) else none
      | none => none
    else none

/-- A pace review (R74). -/
def paceReview (n : LaneNo) (r : JobRecord) (s : State) : State :=
  let s1 := s.updLane n fun l =>
    { l with pace := { l.pace with history := nextHistory l.pace.history l.pace.windowGaps,
                                   reviews := min 255 (l.pace.reviews + 1) } }
  let s2 :=
    match (s1.lane n).speedReq, reviewAsks (s1.lane n) r with
    | none, some q => askSpeed n q.1 q.2 s1
    | _, _ => s1
  writeLane n (s2.updLane n fun l => { l with pace := { l.pace with windowGaps := 0 } })

/-- After the DATA of the last sector: CLOSE, CLOSING, no speed request (R71, R77, R78). -/
def sendClose (n : LaneNo) (s : State) : State :=
  setWaits n (fun w => { w with closed := some s.now, starvation := none })
    (enterLane n .closing (sendMsg n .close (s.updLane n fun l => { l with speedReq := none })))

/-- The lane's context after a DATA (R71). -/
def Lane.sent (l : Lane) : Lane :=
  { l with fifo := l.fifo.tail, credits := l.credits - 1, nextSend := l.nextSend + 1,
           counters := { l.counters with sectorsWritten := l.counters.sectorsWritten.advance max32 },
           pace := { l.pace with toward := if l.pace.toward + 1 = 1024 then 0 else l.pace.toward + 1 } }

/-- A writing lane sends a DATA message (R71), with its pace review (R74) and the CLOSE after the last sector (R78). -/
def sendData (n : LaneNo) (s : State) : State :=
  let l := s.lane n
  match l.fifo, laneRecord s n with
  | x :: _, some r =>
    if writeOpened l ∧ 0 < l.credits ∧ (s.link n).up then
      let s1 := (sendMsg n (.data x.sector x.bytes) s).updLane n fun l => l.sent.starve r.imageSectors s.now
      let s2 := if l.pace.toward + 1 = 1024 then paceReview n r s1 else s1
      if r.imageSectors ≤ l.nextSend + 1 then sendClose n s2 else s2
    else s
  | _, _ => s

/-! ### Closing (R78) -/

/-- CLOSED: the write end (R78, R83, R35). -/
def driveClosed (n : LaneNo) (s : State) : State :=
  if (s.lane n).state = .closing ∧ (s.lane n).waits.closed.isSome then
    match (s.lane n).disc, laneRecord s n with
    | some d, some r =>
      let ended := fun (x : DiscRecord) =>
        { x with totals := some (laneTotals (s.lane n)), writeEnd := stampOnce x.writeEnd s.now }
      let s1 := s.updLane n fun l => { l with waits := { l.waits with closed := none } }
      let s2 := updDisc d.index (fun x => if r.verifyMode = .off then { ended x with outcome := .passed } else ended x) s1
      let s3 := if (s.lane n).faultRun = 0 then s2 else writeLane n (s2.updLane n fun l => { l with faultRun := 0 })
      if r.verifyMode = .off then requestUnload n s3 else enterVerifying n r.imageSectors s3
    | _, _ => s
  else strayMessage n s

/-! ### Timeouts (R67 to R78, R102) -/

/-- MEDIA timeout: the probe ends with DRIVE_FAULT (R67). -/
def mediaExpired (n : LaneNo) (s : State) : State :=
  match (s.lane n).state, (s.lane n).waits.media with
  | .probing, some t =>
    probeFail n .driveFault 0 (setWaits n (fun w => { w with media := none }) (s.advanceTo (t + mediaLimit)))
  | _, _ => s

/-- SPEED timeout: taken as a refusal (R68, R75, R76). -/
def speedExpired (n : LaneNo) (s : State) : State :=
  match (s.lane n).speedReq with
  | some q => refuseSpeed n q (s.advanceTo (q.sentAt + speedLimit))
  | none => s

/-- OPEN timeout (R69). -/
def openExpired (n : LaneNo) (s : State) : State :=
  match (s.lane n).state, (s.lane n).waits.openAck with
  | .writing, some t => laneReject n .driveFault 0 id (s.advanceTo (t + openLimit))
  | _, _ => s

/-- The starvation timer (R71). -/
def starvationExpired (n : LaneNo) (s : State) : State :=
  match (s.lane n).state, (s.lane n).waits.starvation with
  | .writing, some t => laneReject n .writeStall 0 id (s.advanceTo (t + starvationLimit))
  | _, _ => s

/-- CLOSED timeout (R78). -/
def closedExpired (n : LaneNo) (s : State) : State :=
  match (s.lane n).state, (s.lane n).waits.closed with
  | .closing, some t => laneReject n .writeFault 0 id (s.advanceTo (t + closedLimit))
  | _, _ => s

/-! ### Read data (R110, R111) -/

/-- The sector belongs to the outstanding READ and has not been received (R99, R110). -/
def awaits (l : Lane) (sector : Nat) : Bool :=
  decide (l.state = .verifying) && l.waits.readBlock.isSome && decide (l.verify.blockStart ≤ sector) &&
    decide (sector < l.verify.blockStart + l.verify.blockCount) && !(l.verify.received.contains sector)

/-- A block has been read: the READ wait ends, and the next READ or the compare follows (R109, R110, R112). -/
def blockRead (n : LaneNo) (r : JobRecord) (d : DiscRef) (s : State) : State :=
  let s1 := setWaits n (fun w => { w with readBlock := none }) s
  if r.verifyMode = .compare then
    queueCompare n .disc (s.lane n).verify.blockStart (s.lane n).verify.blockCount d.slot (discSerial s d.index) s1
  else nextBlock n r.imageSectors s1

/-- What follows a sector that did not stop verification. -/
def sectorStands (n : LaneNo) (r : JobRecord) (d : DiscRef) (s : State) : State :=
  if (s.lane n).verify.received.length = (s.lane n).verify.blockCount then blockRead n r d s else s

/-- RDATA (R110). -/
def driveRdata (n : LaneNo) (sector : Nat) (status : SectorStatus) (bs : List Byte) (s : State) : State :=
  if awaits (s.lane n) sector then
    match (s.lane n).disc, laneRecord s n with
    | some d, some r =>
      let s1 := s.updLane n fun l =>
        { l with fifo := l.fifo ++ [⟨sector, fitBytes 2048 bs⟩],
                 verify := { l.verify with received := l.verify.received ++ [sector] } }
      match status with
      | .ok => sectorStands n r d s1
      | .recovered =>
        let s2 := updVerify n (fun v => { v with soft := satInc max16 v.soft }) s1
        if r.tolerate.getLsbD 2 then sectorStands n r d s2 else verifyStop n .verifySoft s2
      | .unreadable => verifyStop n .verifyHard (updVerify n (fun v => { v with hard := satInc max16 v.hard }) s1)
    | _, _ => s
  else strayMessage n s

/-- READ block timeout (R111). -/
def readExpired (n : LaneNo) (s : State) : State :=
  match (s.lane n).state, (s.lane n).waits.readBlock with
  | .verifying, some t => laneReject n .driveFault 0 id (s.advanceTo (t + readLimit))
  | _, _ => s

/-! ### FAULT (R101) -/

/-- The lane's disc is PENDING: the arm has picked it. -/
def discPending (s : State) (n : LaneNo) : Bool :=
  match (s.lane n).disc with
  | some d =>
    match s.disc d.index with
    | some r => decide (r.outcome = .pending)
    | none => false
  | none => false

/-- A FAULT in TRAY_LOAD: the PENDING disc is rejected with DRIVE_FAULT; one placed in the tray counts in discs rejected at the CLOSED
answer (R101). A disc that is REJECTED already makes the FAULT taken, not stray, and without effect (R99 against R73; DESIGN CHOICE,
assumption log 60). -/
def faultInLoad (n : LaneNo) (code : Nat) (s : State) : State :=
  if discPending s n then
    laneReject n .driveFault code id
      (s.updLane n fun l => { l with uncounted := if l.inTray then l.disc.map (·.index) else none })
  else s

/-- FAULT with its code (R101). -/
def driveFault (n : LaneNo) (code : Nat) (s : State) : State :=
  match (s.lane n).state with
  | .probing => probeFail n .driveFault code s
  | .trayLoad => faultInLoad n code s
  | .negotiating | .verifying => laneReject n .driveFault code id s
  | .writing | .closing => laneReject n .writeFault code id s
  | _ => strayMessage n s

/-! ### The end of a compare (R116, R117, R120, R121) -/

/-- The bytes a FIFO slot holds for a sector. -/
def fifoBytes (l : Lane) (sector : Nat) : List Byte :=
  match l.fifo.find? fun x => decide (x.sector = sector) with
  | some x => x.bytes
  | none => []

/-- The frame of a lane's compare pin. -/
def compareFrame (l : Lane) : Option FrameNo :=
  match l.pins.find? fun p => decide (p.kind = .compare) with
  | some p => p.frame
  | none => none

/-- The reference of a sector (R115). -/
def reference (s : State) (u : CompareUnit) (f : FrameNo) (sector : Nat) : List Byte :=
  composeSector (jobSubsts s u.slot) u.serial sector (frameSector s f sector)

/-- Every sector of a unit's block equals its reference (R116). -/
def blockEqual (s : State) (u : CompareUnit) (n : LaneNo) : Bool :=
  match compareFrame (s.lane n) with
  | some f =>
    (List.range u.blockCount).all fun k =>
      decide (fifoBytes (s.lane n) (u.blockStart + k) = reference s u f (u.blockStart + k))
  | none => false

/-- A unit with the discard mark goes FREE: the lane unpins, its FIFO is emptied, and a lane that waited for it enters its rest
state (R120, R121). -/
def endDiscarded (u : UnitNo) (n : LaneNo) (s : State) : State :=
  let s1 := unpinKind n .compare (freeUnit u s)
  let s2 := s1.updLane n fun l => { l with fifo := [], verify := { l.verify with unit := none } }
  if (s.lane n).restPending then laneRest n s2 else s2

/-- A unit in COMPARING for a disc ends its block (R116). -/
def compareEnds (u : UnitNo) (s : State) : State :=
  match (s.unit u).state, (s.unit u).kind, (s.unit u).owner with
  | .comparing, .disc, some n =>
    if (s.unit u).discard then endDiscarded u n s
    else
      let s1 := updVerify n (fun v => { v with stage := .off, unit := none }) (unpinKind n .compare (freeUnit u s))
      if blockEqual s (s.unit u) n then
        nextBlock n (imageSectors s (s.unit u).slot) (s1.updLane n fun l => { l with fifo := [] })
      else verifyStop n .verifyMiscompare (updVerify n (fun v => { v with miscompare := satInc max16 v.miscompare }) s1)
  | _, _, _ => s

/-- The differing sectors of a diagnosis block: those at which a defect makes the composed sector and the reference differ; both
are made from one frame, one list and one serial (R115, R117). -/
def diagDiffs (u : CompareUnit) (faulty : List Nat) : List Nat :=
  ((List.range u.blockCount).map (u.blockStart + ·)).filter fun x => faulty.contains x

/-- A unit in COMPARING for a diagnosis ends its block (R117). -/
def diagCompareEnds (u : UnitNo) (faulty : List Nat) (s : State) : State :=
  match (s.unit u).state, (s.unit u).kind, (s.unit u).owner with
  | .comparing, .diagnosis, some n =>
    let diffs := diagDiffs (s.unit u) faulty
    diagBlockDone n diffs.length diffs.head?
      (updVerify n (fun v => { v with stage := .off, unit := none }) (freeUnit u s))
  | _, _, _ => s

end Sys2Proof.Machine
end

