-- ==== Sys2Proof/Machine/Tray.lean ====
section
/-! DEFINITION. The lanes' tray answers and tray failures (R66, R80, R87, R88, R103 to R106), a link going DOWN or UP (R86, R92,
R93), and the enabling and disabling of a lane (R84, R85). -/

namespace Sys2Proof.Machine

/-! ### Tray failures (R106) -/

/-- A lane's queued UNLOAD withdrawn (R86, R106). -/
def withdrawUnload (n : LaneNo) (s : State) : State :=
  match s.queued (requesterOf n) with
  | some t => if t.kind = .unloadLane then withdrawTask (requesterOf n) s else s
  | none => s

/-- The Disc Transport is told that the lane's tray is lost: a begun UNLOAD is given up before its grip, a queued one withdrawn
(R106, R135). -/
def tellTrayLost (n : LaneNo) (s : State) : State := withdrawUnload n (giveUpUnload n s)

/-- A query that did not work: the lane stays FAULTED, or enters it from UNKNOWN, and logs LANE_FAULT (R87, R88, R105). -/
def queryFailed (n : LaneNo) (cause : LaneCause) (s : State) : State := faultLane n cause (some .query) s

/-- The inventory query sent after a command left from before RUN has been answered (R88, R96). -/
def staleAnswered (n : LaneNo) (thenInventory : Bool) (s : State) : State :=
  if thenInventory then beginInventory s n else s

/-- The disc that a FAULT has rejected in TRAY_LOAD counts in discs rejected: at the CLOSED answer, or where the load's tray exchange ends
without one (R101; assumption log 15). -/
def countUncounted (n : LaneNo) (s : State) : State :=
  if (s.lane n).uncounted.isSome then s.updLane n fun l => { l.countRejected with uncounted := none } else s

/-- A tray command failed, its wait already ended (R105, R106). The failure of a withdrawn load leaves the lane FAULTED holding no disc
(R104). -/
def trayFailed (n : LaneNo) (w : TrayWait) (cause : LaneCause) (s : State) : State :=
  match w.purpose with
  | .loadOpen | .loadClose => faultLane n cause (some w.command) (laneReject n .driveFault 0 id (countUncounted n s))
  | .withdrawOpen _ | .withdrawClose _ => faultEmpty n cause (some w.command) s
  | .unloadOpen | .unloadClose => faultLane n cause (some w.command) (tellTrayLost n s)
  | .recovery | .inventory => queryFailed n cause s
  | .stale thenInventory => staleAnswered n thenInventory s

/-! ### Tray answers (R103 to R105) -/

/-- The lane holds a disc in its tray by its record (R87). -/
def holdsByRecord (l : Lane) : Bool := l.disc.isSome && l.inTray

/-- A query answered by a tray that works: a disc held is unloaded, another disc is an orphan, no disc leads to the rest state
(R87, R88, R105, R124). -/
def queryAnswered (n : LaneNo) (present : Bool) (s : State) : State :=
  if holdsByRecord (s.lane n) then requestUnload n s
  else if present then
    requestUnload n ((setTray (trayOf n) .occupied none s).updLane n fun l =>
      { l with disc := none, refuse := none, orphan := true, inTray := true })
  else laneRest n (setTray (trayOf n) .empty none s)

/-- The CLOSED that ends a load: a disc rejected by a FAULT in TRAY_LOAD is counted; then PROBING, or an unload of a disc rejected
meanwhile; with no disc present, TRAY_EMPTY (R66, R101, R104). -/
def loadClosed (n : LaneNo) (present : Bool) (s : State) : State :=
  let s1 := countUncounted n s
  if present then
    match (s1.lane n).disc with
    | some d => if isRejected s1 d.index then requestUnload n s1 else enterProbing n s1
    | none => s1
  else faultLane n .trayEmpty (some .close) (laneReject n .driveFault 0 id s1)

/-- The first TRAY_STATE taken while a tray command is outstanding is its answer (R103 to R105). An OPEN that answers a load withdrawn
meanwhile, with a disc present, does not make the tray OCCUPIED in the map: R124 speaks of the opening of a tray for a load (DESIGN
CHOICE, assumption log 63). -/
def trayAnswer (n : LaneNo) (w : TrayWait) (tray : TrayValue) (present : Bool) (s : State) : State :=
  match w.purpose, tray with
  | .stale thenInventory, _ => staleAnswered n thenInventory s
  | _, .jammed => trayFailed n w .trayJammed s
  | .recovery, _ | .inventory, _ => queryAnswered n present s
  | .loadOpen, .opened | .unloadOpen, .opened => trayOffered (trayOf n) present s
  | .withdrawOpen f, .opened => sendTray n .close (.withdrawClose f) s
  | .loadClose, .closed => loadClosed n present s
  | .withdrawClose f, .closed => endWithdrawn n f s
  | .unloadClose, .closed => laneRest n s
  | _, _ => trayFailed n w .trayStateWrong s

/-- TRAY_STATE (R99, R103 to R105). -/
def driveTray (n : LaneNo) (tray : TrayValue) (present : Bool) (s : State) : State :=
  match (s.lane n).waits.tray with
  | some w => trayAnswer n w tray present (endTrayWait n s)
  | none => strayMessage n s

/-- TRAY timeout (R105, R106). -/
def trayExpired (n : LaneNo) (s : State) : State :=
  match (s.lane n).waits.tray with
  | some w => trayFailed n w .trayTimeout (endTrayWait n (s.advanceTo (w.sentAt + trayLimit)))
  | none => s

/-! ### Refuse marks (R65, R85, R86) -/

/-- The refuse mark that stands where a mark is set: DRIVE_FAULT over LANE_DISABLED, whichever comes first, since a lane in LOAD_WAIT
whose link goes DOWN keeps that mark until its reservation ends (R93; R85 against it is a DESIGN CHOICE, assumption log 62). -/
def markOver (old : Option RefuseMark) (mark : RefuseMark) : RefuseMark :=
  if old = some .driveFault then .driveFault else mark

/-- A lane in LOAD_WAIT asks for its LOAD to be withdrawn: cancelled, or marked where the arm has begun it; a disc already picked
is decided REJECTED with the mark's reason (R85, R86; assumption log 24). -/
def refuseLoad (n : LaneNo) (mark : RefuseMark) (why : RejectReason) (s : State) : State :=
  let queued := hasQueued s (requesterOf n)
  let s1 := s.updLane n fun l =>
    { l with refuse := if queued ∧ mark = .laneDisabled then l.refuse else some (markOver l.refuse mark) }
  if queued then withdrawLoad n s1 else if discPending s1 n then laneReject n why 0 id s1 else s1

/-! ### Links (R86, R91 to R93) -/

/-- The load of the lane has been withdrawn and its tray is not yet closed. -/
def loadWithdrawn (l : Lane) : Bool :=
  match l.waits.tray with
  | some w =>
    match w.purpose with
    | .withdrawOpen _ | .withdrawClose _ => true
    | _ => false
  | none => false

/-- The start-up inventory of the lane is under way (R88, R105). -/
def inventoryRuns (l : Lane) : Bool :=
  match l.waits.tray with
  | some w =>
    match w.purpose with
    | .inventory | .stale true => true
    | _ => false
  | none => false

/-- The lane is told that its link is DOWN: every wait is dropped, and the lane acts by its state (R86, R102, R105). A lane whose load has
been withdrawn, or whose disc has been gripped, is FAULTED holding no disc (R86, R104). -/
def laneDown (n : LaneNo) (s : State) : State :=
  let l := s.lane n
  let s1 := s.updLane n fun x => { x with waits := Waits.none, speedReq := none }
  match l.state with
  | .unknown => if inventoryRuns l then faultLane n .linkDown none s1 else s1
  | .offline | .faulted => s1
  | .idle => faultLane n .linkDown none s1
  | .loadWait => refuseLoad n .driveFault .driveFault s1
  | .trayLoad | .probing | .negotiating | .writing | .closing | .verifying =>
    let s2 := rejectHeld n .driveFault 0 id (countUncounted n s1)
    let s3 := if l.inTray then s2 else s2.emit .armRejected
    if loadWithdrawn l then faultEmpty n .linkDown none s3 else faultLane n .linkDown none s3
  | .unloadWait | .trayUnload =>
    let s2 := tellTrayLost n s1
    if l.inTray then faultLane n .linkDown none s2 else faultEmpty n .linkDown none s2

/-- The port goes DOWN, its held drive messages already delivered: the lane's messages are discarded, the count is 0, and the
lane is told (R92). -/
def portDown (n : LaneNo) (s : State) : State := laneDown n (s.setLink n ⟨false, 0, []⟩)

/-- The port becomes UP: its count is 0, and a FAULTED lane begins recovery (R93, R87). -/
def portUp (n : LaneNo) (s : State) : State :=
  let s1 := s.setLink n { s.link n with up := true, fails := 0, outbound := [] }
  if (s1.lane n).state = .faulted then beginRecovery n s1 else s1

/-! ### Enabling and disabling (R84, R85) -/

/-- SET_LANE with enable set (R84). -/
def enableLane (n : LaneNo) (s : State) : State :=
  let s1 := s.updLane n fun l =>
    { l with enabled := true, faultRun := 0, refuse := if l.refuse = some .laneDisabled then none else l.refuse }
  match (s.lane n).state with
  | .offline => laneRest n s1
  | .faulted => beginRecovery n s1
  | _ => s1

/-- SET_LANE that clears enabled (R85). -/
def disableLane (n : LaneNo) (s : State) : State :=
  let s1 := s.updLane n fun l => { l with enabled := false }
  match (s.lane n).state with
  | .idle => enterLane n .offline s1
  | .loadWait => refuseLoad n .laneDisabled .laneDisabled s1
  | .trayLoad | .probing | .negotiating | .writing | .closing | .verifying =>
    if discPending s1 n then laneReject n .laneDisabled 0 id s1 else s1
  | _ => s1

/-! ### Drive messages as the port delivers them (R95, R99) -/

/-- A message has the form of its kind (R98): at most eight offered rates, a sector of 2,048 bytes. -/
def messageFormed (m : DriveMsg) : Bool :=
  match m with
  | .media _ _ _ rates => decide (rates.length ≤ 8)
  | .rdata _ _ bs => decide (bs.length = 2048)
  | .malformed => false
  | _ => true

/-- A well-formed drive message taken by its kind and the lane's state (R99). -/
def takeFormed (n : LaneNo) (m : DriveMsg) (s : State) : State :=
  match m with
  | .media c b cap rates => driveMedia n c.toNat b cap.toNat rates s
  | .speedAck r => driveSpeedAck n r.toNat s
  | .speedRefused r => driveSpeedRefused n r.toNat s
  | .openAck => driveOpenAck n s
  | .credit c => driveCredit n c.toNat s
  | .gap => driveGap n s
  | .closed => driveClosed n s
  | .rdata x st bs => driveRdata n x.toNat st bs s
  | .trayState t p => driveTray n t p s
  | .fault c => driveFault n c.toNat s
  | .malformed => strayMessage n s

/-- A drive message: a malformed one is stray in every lane state (R98). -/
def takeMessage (n : LaneNo) (m : DriveMsg) (s : State) : State :=
  if messageFormed m then takeFormed n m s else strayMessage n s

/-- A message reaches the lane only while its port is UP (R95). -/
def deliver (n : LaneNo) (m : DriveMsg) (s : State) : State := if (s.link n).up then takeMessage n m s else s

end Sys2Proof.Machine
end

