-- ==== Sys2Proof/Machine/Settle.lean ====
section
/-! DEFINITION. The reports that blocks make to one another within a step: each is taken in turn, first made first, until none is
left (95_what_each_step_holds: a step is whole, with what comes about inside it). -/

namespace Sys2Proof.Machine

/-- One report or request taken by its block. -/
def takeSignal (sig : Signal) (s : State) : State :=
  match sig with
  | .dispatch => dispatchPass s
  | .stalls => refreshStalls s
  | .select => armSelect s
  | .stopTest => stopTest s
  | .sweepTest => sweepTest s
  | .grant => grantUnit s
  | .presented => armPresented s
  | .presentLost => armPresentLost s
  | .armRejected => armRejected s
  | .stepTest => stepTest s

/-- At most `n` reports taken; none is left over (assumption log 25). -/
def settleN (n : Nat) (s : State) : State :=
  match n with
  | 0 => { s with signals := [] }
  | k + 1 =>
    match s.signals with
    | [] => s
    | sig :: rest => settleN k (takeSignal sig { s with signals := rest })

/-- The reports of a step taken until none is left. -/
def settle (s : State) : State := settleN 4096 s

end Sys2Proof.Machine
end

