-- ==== Sys2Proof/Machine/PortCommands.lean ====
section
/-! DEFINITION. The commands of the registers and pins (chapter 10, R140, R141): the resets, RUN and STOP, the register writes and
the CAUSE read, the sheet reads, the roster clean, and the STOP input. -/

namespace Sys2Proof.Machine

/-- The answer of every command. -/
abbrev Answered := Host.Outcome State Fault Refusal

/-! ### Resets (R179 and the reset clauses of every chapter) -/

/-- The whole part at its reset values (R179): WINDOW_BASE and WINDOW_SIZE as given, the gripper closed with its readings taken from the
sensors (R130), and the ribbon-out level as the command brings it. Host memory, the frames' bytes in the local DRAM, the STOP level and
the waiting commands are not the reset's; the model's numbers of fills, prints and free values run on, so that a late completion is told
from a live one (R61). -/
def resetPart (base size : BitVec 64) (sense : Sensors) (s : State) : State :=
  { State.reset with
    port := { Port.reset with windowBase := base, windowSize := size }
    fetch := { Fetch.reset with nextFill := s.fetch.nextFill }
    printer := { Printer.reset with print := s.printer.print }
    transport := { Transport.reset with discPresent := sense.discPresent, thicknessTwo := sense.thicknessTwo }
    dram := s.dram
    pins := { s.pins with ribbonOut := sense.ribbonOut }
    host := s.host
    draws := s.draws
    pending := s.pending }

/-- PIN_RESET (R179). -/
def execPinReset (sense : Sensors) (s : State) : Answered := .next (resetPart 0 0 sense s)

/-- SOFT_RESET (R177, R179): the enables take the written values, and the command then clears them. -/
def execSoftReset (causeEnables logEnables : BitVec 6) (sense : Sensors) (s : State) : Answered :=
  .next (resetPart s.port.windowBase s.port.windowSize sense (loadEnables causeEnables logEnables s))

/-! ### RUN (R177, R180) -/

/-- The configuration block read by RUN, where it and the window are valid (R180). -/
def runConfig (p : Port) (config : HostRead) : Option ConfigBlock :=
  if windowValid p then
    match config with
    | .error => none
    | .data bs =>
      let c := configOfBytes (fitBytes 4096 bs)
      if configLegal c then some c else none
  else none

/-- A lane as an accepted RUN leaves it (R88): a tray command still outstanding keeps its wait, and its answer will change
nothing (R102). -/
def Lane.atRun (enabled : Bool) (cap time : Nat) (l : Lane) : Lane :=
  let l1 := if l.state = .unknown then l else l.enter .unknown time
  { l1 with
    enabled := enabled, cap := cap, disc := none, inTray := false, orphan := false, refuse := none, offered := [],
    ceiling := none, rate := none, speedReq := none, fifo := [], nextCopy := 0, nextSend := 0, credits := 0,
    pace := ⟨0, 0, 0, 0⟩, totals := ⟨0, 0, 0⟩, restPending := false, uncounted := none,
    waits := { Waits.none with tray := l.waits.tray.map fun w => { w with purpose := .stale false } } }

/-- A lane enters UNKNOWN with its part of the configuration, and writes its block (R88). -/
def runLane (c : ConfigBlock) (s : State) (n : LaneNo) : State :=
  writeLane n (s.updLane n (Lane.atRun (c.laneEnables.getLsbD n.val) c.laneCaps[n] s.now))

/-- The Disc Transport at an accepted RUN (R123, R124, R128, R130, R145). -/
def Transport.atRun (c : ConfigBlock) (t : Transport) : Transport :=
  { t with
    stations := c.stations, deadTime := c.deadTime, holdDuty := c.holdDuty,
    map := Vector.replicate 21 StationEntry.reset, current := none, queue := Vector.replicate 17 none, positions := 0,
    lastCause := none, sweep := none, homeDue := false }

/-- The Disc Transport resets and writes its map and its status (R124, R130). -/
def runTransport (c : ConfigBlock) (s : State) : State :=
  let s1 := allStations.foldl (fun t k => writeEntry k t) { s with transport := s.transport.atRun c }
  report transportRegion (transportBlock s1.transport) s1

/-- JC's eight blocks, written FREE (R1). -/
def runJobs (s : State) : State :=
  allSlots.foldl (fun t j => writeJob j t) { s with jobs := Vector.replicate 8 Job.reset }

/-- The printer at an accepted RUN: its reset values with the configured profile, and its status written (R147). -/
def runPrinter (c : ConfigBlock) (s : State) : State :=
  writePrinter { s with printer := { Printer.reset with profile := c.profile, print := s.printer.print } }

/-- The entry to STARTING: the log class enables, the header, and each block's start-up (R177); the roster clean begins at record
0 (R40). -/
def enterStarting (c : ConfigBlock) (s : State) : State :=
  let s1 := setPart .starting { s with port := { s.port with logEnables := c.logClasses } }
  let s2 := runPrinter c (runTransport c (allLanes.foldl (runLane c) (runJobs s1)))
  { s2 with roster := { map := Vector.replicate 256 none, clean := some 0 } }

/-- RUN (R177, R180). -/
def execRun (causeEnables logEnables : BitVec 6) (config : HostRead) (s : State) : Answered :=
  let s1 := loadEnables causeEnables logEnables s
  if s.port.part = .stopped then
    match runConfig s.port config with
    | some c => .next (settle (enterStarting c s1))
    | none => .next (setCause .config s1)
  else .next (setCause .refused s1)

/-! ### STOP (R178) -/

/-- STOP is accepted: the part is RUNNING without the mark, and every job slot is FREE (R178). -/
def stopAccepted (s : State) : Bool :=
  decide (s.port.part = .running) && !s.port.stopPending && s.jobs.toList.all fun j => decide (j.state = .free)

/-- STOP (R178). -/
def execStop (causeEnables logEnables : BitVec 6) (s : State) : Answered :=
  let s1 := loadEnables causeEnables logEnables s
  if stopAccepted s then
    .next (settle ((putHeader { s1 with port := { s1.port with stopPending := true } }).emit .stopTest))
  else .next (setCause .refused s1)

/-! ### Register writes (R176, R177, R181, R189) and the CAUSE read (R186) -/

/-- ENABLES_WRITE (R177). -/
def execEnablesWrite (causeEnables logEnables : BitVec 6) (s : State) : Answered :=
  .next (loadEnables causeEnables logEnables s)

/-- WINDOW_BASE_WRITE (R176). -/
def execWindowBaseWrite (value : BitVec 64) (s : State) : Answered :=
  if s.port.part = .stopped then .next { s with port := { s.port with windowBase := value } }
  else .next (setCause .window s)

/-- WINDOW_SIZE_WRITE (R176). -/
def execWindowSizeWrite (value : BitVec 64) (s : State) : Answered :=
  if s.port.part = .stopped then .next { s with port := { s.port with windowSize := value } }
  else .next (setCause .window s)

/-- SHEET_WRITE (R181). -/
def execSheetWrite (address : BitVec 64) (s : State) : Answered := .next (handSheet address s)

/-- CAUSE_READ (R186). -/
def execCauseRead (s : State) : Answered :=
  .next { s with port := { s.port with readData := causeValue s.port, cause := 0 } }

/-- REGISTER_WRITE_IGNORED (R189): nothing changes. A write that is none of these is another command of the table, and changes
nothing under this one. -/
def execRegisterWriteIgnored (_offset : BitVec 64) (_width : Nat) (_value : BitVec 64) (s : State) : Answered := .next s

/-- SHEET_READ (R182). -/
def execSheetRead (header entries : HostRead) (s : State) : Answered := .next (processSheet header entries s)

/-! ### The roster clean (R40 to R42) -/

/-- A record of the clean acted on by what it holds (R40). -/
def cleanRecord (i : DiscNo) (b : List Byte) (s : State) : State :=
  match cleanAction b with
  | .leaveFree => s.setDisc i none
  | .keep r => s.setDisc i (some r)
  | .rewrite r => writeRecord i (s.setDisc i (some r))
  | .rewriteReset r =>
    logEntry .discRejected i.val (byte RejectReason.reset.code) (writeRecord i (s.setDisc i (some r)))
  | .rewriteFree => writeRecord i (s.setDisc i none)

/-- The arm homes after the clean, or at the negation of an asserted STOP input (R40, R145). -/
def homeAfterClean (s : State) : State :=
  if s.pins.stop then { s with transport := { s.transport with homeDue := true } } else beginHoming s

/-- A read of the clean failed (R41): the map is as a reset left it, the arm shows UNHOMED, the part is FAULTED. -/
def cleanFails (s : State) : State :=
  setPart .faulted
    (changeArm (fun t => { t with arm := .unhomed, posValid := false, homeDue := false }) { s with roster := Roster.reset })

/-- The next record of the clean, after record `i`. -/
def cleanNext (i : Nat) (s : State) : State :=
  if i < 255 then { s with roster := { s.roster with clean := some (i + 1) } }
  else homeAfterClean { s with roster := { s.roster with clean := none } }

/-- ROSTER_RECORD_READ (R40, R41). -/
def execRosterRecordRead (record : HostRead) (s : State) : Answered :=
  match s.port.part, s.roster.clean with
  | .starting, some i =>
    match record, toIndex 256 i with
    | .data bs, some d => .next (settle (cleanNext i (cleanRecord d (fitBytes 128 bs) s)))
    | .error, _ => .next (settle (cleanFails s))
    | _, none => .next s
  | _, _ => .next s

/-! ### The STOP input (R140, R141, R161) -/

/-- The part logs the STOP input (R140, R141). -/
def logsStop (p : Port) : Bool := decide (p.part = .starting) || decide (p.part = .running)

/-- The assertion of the STOP input (R140, R161). -/
def assertStop (s : State) : State :=
  let s1 := setCause .stop { s with pins := { s.pins with stop := true } }
  let s2 := if logsStop s.port then logEntry .stopAsserted 0 [] s1 else s1
  haltPrinter (stopArm s2)

/-- STOP_ASSERTED (R140). An input that is asserted already is not asserted again. -/
def execStopAsserted (s : State) : Answered := if s.pins.stop then .next s else .next (settle (assertStop s))

/-- The negation of the STOP input (R141); in STARTING the arm homes by itself once the roster clean is done (R145). -/
def clearStop (s : State) : State :=
  let s1 := { s with pins := { s.pins with stop := false } }
  let s2 := if logsStop s.port then logEntry .stopCleared 0 [] s1 else s1
  if s.port.part = .starting ∧ s.transport.homeDue ∧ s.roster.clean.isNone then beginHoming s2 else s2

/-- STOP_CLEARED (R141). -/
def execStopCleared (s : State) : Answered := if s.pins.stop then .next (settle (clearStop s)) else .next s

end Sys2Proof.Machine
end

