-- ==== Sys2Proof/Machine/ArmCommands.lean ====
section
/-! DEFINITION. The events of the arm (R131 to R133, R138, R142): the ends of its steps, the contact sensor, the shakes, the move
timer and the homing sensors, one definition per row. -/

namespace Sys2Proof.Machine

/-- A move or a shake runs at most 5,000 ms (R131). -/
def moveLimit : Nat := 5000000

/-! ### Steps of a move (R131, R134, R135) -/

/-- MOVE_STEP_DONE (R131): an axis reaches its target in the step in progress; a descent onto a spindle ends by contact or at its
floor, and a shake by SHAKE_DONE. -/
def execMoveStepDone (sense : Sensors) (s : State) : Answered :=
  match s.transport.arm, s.transport.current with
  | .moving, some c =>
    match c.phase with
    | .lift d => .next (settle (liftDone d c sense s))
    | .swing d => .next (settle (swingDone d c sense s))
    | .descend d => .next (settle (descentDone d c sense s))
    | .rise _ => .next (settle (riseDone sense s))
    | .waitTray _ | .search _ | .shake _ | .waitFull => .next s
  | _, _ => .next s

/-! ### Search descents (R132, R136) -/

/-- The arm stands at a height at the end of a search descent, its move ended. -/
def searchEnd (h : Nat) (s : State) : State := showPositions (setLift h (stopTimer s))

/-- CONTACT_TRIP (R132, R136): the gripper closes on the stack, or opens on it. -/
def execContactTrip (height : Nat) (sense : Sensors) (s : State) : Answered :=
  match s.transport.arm, s.transport.current with
  | .moving, some c =>
    match c.phase with
    | .search false => .next (settle (endAtOnce (gripAtSpindle sense (searchEnd height s))))
    | .search true => .next (settle (endAtOnce (releaseAtSpindle sense (searchEnd height s))))
    | _ => .next s
  | _, _ => .next s

/-- FLOOR_REACHED (R132, R136): the spindle is EMPTY, or the disc is dropped on its floor. -/
def execFloorReached (sense : Sensors) (s : State) : Answered :=
  match s.transport.arm, s.transport.current with
  | .moving, some c =>
    match c.phase with
    | .search false => .next (settle (endAtOnce (reportEmpty (searchEnd (s.station c.task.source).lift s))))
    | .search true => .next (settle (endAtOnce (releaseAtSpindle sense (searchEnd (s.station c.task.dest).lift s))))
    | _ => .next s
  | _, _ => .next s

/-! ### Shakes (R133) -/

/-- A shake has ended with a reading of the thickness sensor, which decides what follows (R133); the readings the status shows are those
of the gripper's last change (R130), and stand. -/
def shakeEnds (k : Nat) (two : Bool) (s : State) : State :=
  if !two then reportPick s
  else if k < 3 then startTimer (setPhase (.shake (k + 1)) s)
  else reportPair s

/-- SHAKE_DONE (R133). -/
def execShakeDone (two : Bool) (s : State) : Answered :=
  match s.transport.arm, s.transport.current with
  | .moving, some c =>
    match c.phase with
    | .shake k => .next (settle (endAtOnce (shakeEnds k two s)))
    | _ => .next s
  | _, _ => .next s

/-! ### The move timer (R138) -/

/-- MOVE_TIMEOUT (R138). -/
def execMoveTimeout (s : State) : Answered :=
  match s.transport.arm, s.transport.timer with
  | .moving, some t => .next (settle (armFail .moveTimeout (s.advanceTo (t + moveLimit))))
  | _, _ => .next s

/-! ### Homing (R142, R143, R146) -/

/-- LIFT_TOP_TRIP (R142): the swing step begins, timed anew. -/
def execLiftTopTrip (s : State) : Answered :=
  if s.transport.arm = .homing ∧ s.transport.homing = some .lift then
    .next (startTimer { s with transport := { s.transport with homing := some .swing } })
  else .next s

/-- Homing has succeeded: the positions are 0 and valid (R142). -/
def homed (s : State) : State :=
  stopTimer (changeArm (fun t =>
    { t with posValid := true, liftPos := 0, swingPos := 0, shownLift := 0, shownSwing := 0, homing := none }) s)

/-- What follows a homing that succeeded: the printer is released and finds its ribbon in or out (R161), and the sweep begins (R146) or
the arm acts by its task (R143). -/
def afterHoming (sense : Sensors) (s : State) : State :=
  let h := homed s
  let s1 := releasePrinter (if h.printer.halt then { h with pins := { h.pins with ribbonOut := sense.ribbonOut } } else h)
  if s1.port.part = .starting ∧ s1.transport.sweep = none then beginSweep s1 else resumeTask sense s1

/-- SWING_HOME_TRIP (R142). -/
def execSwingHomeTrip (sense : Sensors) (s : State) : Answered :=
  if s.transport.arm = .homing ∧ s.transport.homing = some .swing then .next (settle (afterHoming sense s)) else .next s

/-- Homing has failed (R142, R145). -/
def homingFails (s : State) : State :=
  let s1 := stopTimer (changeArm (fun t => { t with arm := .faulted, posValid := false, homing := none, lastCause := some .homeFail }) s)
  failStarting
    (logEntry .armFault 0
      (faultDetail .homeFail s.transport.current (match s.transport.current with | some c => c.task.faults | none => 0)
        s.transport.discPresent) s1)

/-- HOME_FAIL (R142): a homing step reaches 5,000 ms. -/
def execHomeFail (s : State) : Answered :=
  match s.transport.arm, s.transport.timer with
  | .homing, some t => .next (settle (homingFails (s.advanceTo (t + moveLimit))))
  | _, _ => .next s

end Sys2Proof.Machine
end

