-- ==== Sys2Proof/Machine/Operands.lean ====
section
/-! DEFINITION. The operand forms of the requests: the request kind and the request fields of a sheet entry (11.1, 11.4). -/

namespace Sys2Proof.Machine

/-- The request kinds (11.1, R183). -/
inductive RequestKind where
  | admitJob
  | holdJob
  | resumeJob
  | abortJob
  | clearJob
  | exchangeLabel
  | releaseDiscs
  | setLane
  | takeCounts
  | diagnoseLane
  | refill
  | emptied
  | clearTransport
  | clearPrinter
  | setProfile
  deriving DecidableEq, Repr

/-- The request kind of a code (11.1). -/
def kindOf : Nat → Option RequestKind
  | 1 => some .admitJob
  | 2 => some .holdJob
  | 3 => some .resumeJob
  | 4 => some .abortJob
  | 5 => some .clearJob
  | 6 => some .exchangeLabel
  | 7 => some .releaseDiscs
  | 8 => some .setLane
  | 9 => some .takeCounts
  | 10 => some .diagnoseLane
  | 11 => some .refill
  | 12 => some .emptied
  | 13 => some .clearTransport
  | 14 => some .clearPrinter
  | 15 => some .setProfile
  | _ => none

/-- The kind an entry carries. -/
def entryKind (e : List Byte) : Option RequestKind := kindOf (fieldAt e 0 1)

/-- The slot number of ADMIT_JOB, HOLD_JOB, RESUME_JOB, ABORT_JOB, CLEAR_JOB and EXCHANGE_LABEL: absent above 7. -/
def reqSlot (e : List Byte) : Option SlotNo := toIndex 8 (fieldAt e 8 1)

/-- The job record's or the profile record's address. -/
def reqAddress (e : List Byte) : Nat := fieldAt e 0x10 8

/-- EXCHANGE_LABEL's line count. -/
def reqLines (e : List Byte) : Nat := fieldAt e 0x0A 2

/-- RELEASE_DISCS' count and list. -/
def reqCount (e : List Byte) : Nat := fieldAt e 8 1
def reqIndex (e : List Byte) (i : Nat) : Nat := fieldAt e (0x10 + 2 * i) 2

/-- The lane number of SET_LANE, TAKE_COUNTS and DIAGNOSE_LANE: absent above 15. -/
def reqLane (e : List Byte) : Option LaneNo := toIndex 16 (fieldAt e 8 1)

/-- SET_LANE's enable flag and cap. -/
def reqEnable (e : List Byte) : Bool := bitAt e 9 0
def reqCap (e : List Byte) : Nat := fieldAt e 0x0A 2

/-- DIAGNOSE_LANE's slot, page count and first page. -/
def reqDiagSlot (e : List Byte) : Option SlotNo := toIndex 8 (fieldAt e 9 1)
def reqPageCount (e : List Byte) : Nat := fieldAt e 0x0A 2
def reqFirstPage (e : List Byte) : Nat := fieldAt e 0x0C 4

/-- REFILL's spindle and count. -/
def reqInput (e : List Byte) : Option Spindle := spindleOf (fieldAt e 8 1)
def reqFill (e : List Byte) : Nat := fieldAt e 0x0A 2

/-- EMPTIED's spindle: 0 OUTPUT, 1 REJECT (11.1). -/
def reqEmptied (e : List Byte) : Option StationNo :=
  match fieldAt e 8 1 with
  | 0 => some stationOutput
  | 1 => some stationReject
  | _ => none

end Sys2Proof.Machine
end

