-- ==== Sys2Proof/Machine/RequestBase.lean ====
section
/-! DEFINITION. How a sheet entry is run (R182, R183): the next entry of the taken sheet, judged by its kind and the part state,
taken by its owner, and its result written. -/

namespace Sys2Proof.Machine

/-- What the owner of a request makes of it: the result code, the result data, the state. -/
structure Answer where
  code : ResultCode
  data : List Byte
  state : State
  deriving DecidableEq, Repr

/-- A request refused: nothing changes (R183). -/
def refuse (c : ResultCode) (s : State) : Answer := ⟨c, [], s⟩

/-- A request accepted with no result data. -/
def accept (s : State) : Answer := ⟨.ok, [], s⟩

/-- The next entry of the current sheet to be run (R182, step 4). -/
def nextEntry (s : State) : Option (List Byte) :=
  match s.port.current with
  | some ⟨_, some es, i⟩ => es[i]?
  | _ => none

/-- An entry is run: what its owner makes of it takes effect, with its reports, before its result is written (R182). -/
def writeAnswer (a : Answer) : State := finishEntry a.code a.data (settle a.state)

/-- The next entry run as a request of a kind, by the judgement of R183. The entry's own kind decides which request it is: an entry
of another kind is not this command. -/
def runEntry (k : RequestKind) (take : List Byte → State → Answer) (s : State) : State :=
  match nextEntry s with
  | some e =>
    if entryKind e = some k then
      if s.port.part = .running then writeAnswer (take e s) else finishEntry .badState [] s
    else s
  | none => s

end Sys2Proof.Machine
end

