-- ==== Sys2Proof/Machine/JobRequests.lean ====
section
/-! DEFINITION. The requests of the Job Controller and the Disc Roster: ADMIT_JOB, HOLD_JOB, RESUME_JOB, ABORT_JOB, CLEAR_JOB,
EXCHANGE_LABEL and RELEASE_DISCS. -/

namespace Sys2Proof.Machine

/-! ### ADMIT_JOB (R3 to R7) -/

/-- The bytes of a job record: 0x40 bytes and eight substitution entries of 32 (11.5). -/
def jobRecordSize : Nat := 320

/-- Check 4: an extent passes the window check, where there is one (R3). -/
def extentInside (p : Port) (x : Option (Nat × Nat)) : Bool :=
  match x with
  | some e => windowCheck p e.1 e.2
  | none => true

/-- Check 4: every extent of the record (R3). -/
def extentsInside (p : Port) (x : JobExtents) : Bool :=
  extentInside p (some x.image) && extentInside p x.raster && extentInside p x.strip

/-- The glyph strip as read, absent when its read returned an error (R2, R3). -/
def readStrip (x : JobExtents) (strip : HostRead) : Option (List Byte) :=
  match x.strip with
  | some e =>
    match strip with
    | .data bs => some (fitBytes e.2 bs)
    | .error => none
  | none => some []

/-- The context that an admission installs (R2, R7). -/
def admittedJob (b : List Byte) (l : List Subst) (glyphs : List Byte) : Job :=
  { Job.reset with
    state := if recStartHeld b then .held else .running
    hold := if recStartHeld b then some .host else none
    record := some (jobRecordOf b l)
    raster := if recPrint b then some (fieldAt b 0x20 8, fieldAt b 0x28 2) else none
    nextSerial := if (serialWidth l).isSome then some (fieldAt b 0x1C 4) else none
    glyphs := glyphs }

/-- The job installed, its block written and its admission logged (R7); a RUNNING one brings a dispatch pass (R19). -/
def installJob (j : SlotNo) (job : Job) (s : State) : State :=
  let s1 := logEntry .jobAdmitted j.val [] (writeJob j (s.setJob j job))
  match job.hold with
  | some why => logEntry .jobHeld j.val (byte why.code) s1
  | none => (s1.emit .dispatch).emit .stalls

/-- The checks of the record's own contents and the strip, 4 to 8, and the admission (R3, R7). -/
def admitRecord (j : SlotNo) (b : List Byte) (strip : HostRead) (s : State) : Answer :=
  if ¬ extentsInside s.port (jobExtents b) then refuse .badAddress s
  else if ¬ jobFieldsLegal b then refuse .badField s
  else
    match substListOf b with
    | none => refuse .badSubst s
    | some l =>
      if ¬ overlayLegal b l then refuse .badOverlay s
      else
        match readStrip (jobExtents b) strip with
        | none => refuse .badAddress s
        | some glyphs => accept (installJob j (admittedJob b l glyphs) s)

/-- ADMIT_JOB as JC takes it (R3, R178). -/
def takeAdmitJob (record strip : HostRead) (e : List Byte) (s : State) : Answer :=
  match reqSlot e with
  | none => refuse .badSlot s
  | some j =>
    if s.port.stopPending then refuse .badState s
    else if (s.job j).state ≠ .free then refuse .busy s
    else if ¬ windowCheck s.port (reqAddress e) jobRecordSize then refuse .badAddress s
    else
      match record with
      | .error => refuse .badAddress s
      | .data bs => admitRecord j (fitBytes jobRecordSize bs) strip s

/-- ADMIT_JOB (R7). -/
def execAdmitJob (record strip : HostRead) (s : State) : Answered :=
  .next (runEntry .admitJob (takeAdmitJob record strip) s)

/-! ### HOLD_JOB and RESUME_JOB (R10, R11) -/

/-- HOLD_JOB as JC takes it (R10). -/
def takeHoldJob (e : List Byte) (s : State) : Answer :=
  match reqSlot e with
  | none => refuse .badSlot s
  | some j =>
    if (s.job j).state = .running ∨ (s.job j).state = .draining then accept (holdJobFor j .host s)
    else refuse .badState s

/-- HOLD_JOB (R10). -/
def execHoldJob (s : State) : Answered := .next (runEntry .holdJob takeHoldJob s)

/-- The context of a resumed job (R11). -/
def Job.resumed (j : Job) : Job :=
  { j with state := if j.sum < j.copies then .running else .draining, hold := none, probeRun := 0 }

/-- A job resumed (R11); one that enters RUNNING brings a dispatch pass (R19). -/
def resumeJob (j : SlotNo) (s : State) : State :=
  let s1 := logEntry .jobResumed j.val [] (changeJob j Job.resumed (freeFailed j s))
  if (s1.job j).state = .running then (s1.emit .dispatch).emit .stalls else s1

/-- RESUME_JOB as JC takes it (R11). -/
def takeResumeJob (e : List Byte) (s : State) : Answer :=
  match reqSlot e with
  | none => refuse .badSlot s
  | some j =>
    if (s.job j).state ≠ .held ∨ serialSpent (s.job j) then refuse .badState s else accept (resumeJob j s)

/-- RESUME_JOB (R11). -/
def execResumeJob (s : State) : Answered := .next (runEntry .resumeJob takeResumeJob s)

/-! ### ABORT_JOB (R22, R23) -/

/-- A PENDING disc of the job that a lane holds, on the arm or in its tray, is decided REJECTED with ABORTED, the unit it frees being
granted before the next lane's turn (R22, R113). -/
def abortDisc (j : SlotNo) (s : State) (n : LaneNo) : State :=
  match (s.lane n).disc with
  | some d => if d.slot = j ∧ discPending s n then laneTurn (laneReject n .aborted 0 id s) else s
  | none => s

/-- A job aborted (R22, R23). -/
def abortJob (j : SlotNo) (s : State) : State :=
  let s1 := changeJob j (fun x => { x.leaveRunning .aborting with hold := none }) s
  testCounts j (allLanes.foldl (abortDisc j) (withdrawLoads j s1))

/-- ABORT_JOB as JC takes it (R22). -/
def takeAbortJob (e : List Byte) (s : State) : Answer :=
  match reqSlot e with
  | none => refuse .badSlot s
  | some j =>
    if (s.job j).state = .running ∨ (s.job j).state = .draining ∨ (s.job j).state = .held then accept (abortJob j s)
    else refuse .badState s

/-- ABORT_JOB (R22). -/
def execAbortJob (s : State) : Answered := .next (runEntry .abortJob takeAbortJob s)

/-! ### CLEAR_JOB (R24) -/

/-- A diagnosis naming the slot is in progress on some lane (R24). -/
def slotDiagnosed (s : State) (j : SlotNo) : Bool :=
  allLanes.any fun n => match (s.lane n).diag with | some g => decide (g.slot = j) | none => false

/-- CLEAR_JOB as JC takes it (R24). -/
def takeClearJob (e : List Byte) (s : State) : Answer :=
  match reqSlot e with
  | none => refuse .badSlot s
  | some j =>
    if (s.job j).state ≠ .done ∧ (s.job j).state ≠ .aborted then refuse .badState s
    else if slotDiagnosed s j then refuse .busy s
    else accept (writeJob j ((releaseFrames j s).setJob j Job.reset))

/-- CLEAR_JOB (R24). -/
def execClearJob (s : State) : Answered := .next (runEntry .clearJob takeClearJob s)

/-! ### EXCHANGE_LABEL (R25, R164) -/

/-- The overlay of a job still lies within a raster of a line count (R25, check 5). -/
def overlayFits (r : JobRecord) (lines : Nat) : Bool :=
  match r.overlay with
  | some o => decide (o.y + o.glyphHeight ≤ lines)
  | none => true

/-- The use table after an exchange: the new address is no longer retiring, and the old one is when it is in use (R25, R164). -/
def exchangeUses (old new : Nat) (uses : List RasterUse) : List RasterUse :=
  let u := setRetiring new false uses
  if inUse old uses then setRetiring old true u else u

/-- EXCHANGE_LABEL as JC takes it (R25). -/
def takeExchangeLabel (e : List Byte) (s : State) : Answer :=
  match reqSlot e with
  | none => refuse .badSlot s
  | some j =>
    match (s.job j).record with
    | none => refuse .badState s
    | some r =>
      if (s.job j).state = .free ∨ ¬ r.print then refuse .badState s
      else if ¬ windowCheck s.port (reqAddress e) (reqLines e * 168) then refuse .badAddress s
      else if reqLines e < 1 ∨ 1344 < reqLines e then refuse .badField s
      else if ¬ overlayFits r (reqLines e) then refuse .badOverlay s
      else
        let old := match (s.job j).raster with | some x => x.1 | none => 0
        let used := inUse old s.printer.uses
        let s1 := changeJob j (fun x => { x with raster := some (reqAddress e, reqLines e) }) s
        ⟨.ok, dword old ++ byte (flagByte [used]), updPrinter (fun p => { p with uses := exchangeUses old (reqAddress e) p.uses }) s1⟩

/-- EXCHANGE_LABEL (R25). -/
def execExchangeLabel (s : State) : Answered := .next (runEntry .exchangeLabel takeExchangeLabel s)

/-! ### RELEASE_DISCS (R38) -/

/-- What a release has come to: how many were released, the skipped mask, the state. -/
structure Release where
  count : Nat
  skipped : Nat
  state : State
  deriving DecidableEq, Repr

/-- One entry of the list (R38): released, with the dispatch pass its freeing brings, or skipped. -/
def releaseEntry (e : List Byte) (i : Nat) (x : Release) : Release :=
  match toIndex 256 (reqIndex e i) with
  | some d =>
    match x.state.disc d with
    | some r =>
      if releasable r then { x with count := x.count + 1, state := settle (freeRecord d x.state) }
      else { x with skipped := x.skipped + 2 ^ i }
    | none => { x with skipped := x.skipped + 2 ^ i }
  | none => { x with skipped := x.skipped + 2 ^ i }

/-- RELEASE_DISCS as RS takes it (R38). -/
def takeReleaseDiscs (e : List Byte) (s : State) : Answer :=
  if reqCount e < 1 ∨ 24 < reqCount e then refuse .badField s
  else
    let x := (List.range (reqCount e)).foldl (fun x i => releaseEntry e i x) ⟨0, 0, s⟩
    ⟨.ok, byte x.count ++ [0, 0, 0] ++ word x.skipped, x.state⟩

/-- RELEASE_DISCS (R38). -/
def execReleaseDiscs (s : State) : Answered := .next (runEntry .releaseDiscs takeReleaseDiscs s)

end Sys2Proof.Machine
end

