-- ==== Sys2Proof/Machine/LaneCommands.lean ====
section
/-! DEFINITION. The lanes' timeouts (R102), the steps of a writing lane (R70, R71), the host reads of fills (R51 to R54), and the
ends of compares (R116, R117), one definition per row. -/

namespace Sys2Proof.Machine

/-- MEDIA_TIMEOUT (R67). -/
def execMediaTimeout (n : LaneNo) (s : State) : Answered := .next (settle (mediaExpired n s))

/-- SPEED_TIMEOUT (R68, R75, R76). -/
def execSpeedTimeout (n : LaneNo) (s : State) : Answered := .next (settle (speedExpired n s))

/-- OPEN_TIMEOUT (R69). -/
def execOpenTimeout (n : LaneNo) (s : State) : Answered := .next (settle (openExpired n s))

/-- CREDIT_STARVATION (R71). -/
def execCreditStarvation (n : LaneNo) (s : State) : Answered := .next (settle (starvationExpired n s))

/-- CLOSED_TIMEOUT (R78). -/
def execClosedTimeout (n : LaneNo) (s : State) : Answered := .next (settle (closedExpired n s))

/-- READ_BLOCK_TIMEOUT (R111). -/
def execReadBlockTimeout (n : LaneNo) (s : State) : Answered := .next (settle (readExpired n s))

/-- TRAY_TIMEOUT (R106). -/
def execTrayTimeout (n : LaneNo) (s : State) : Answered := .next (settle (trayExpired n s))

/-- SECTOR_COPY (R70). -/
def execSectorCopy (n : LaneNo) (s : State) : Answered := .next (settle (copySector n s))

/-- DATA (R71). -/
def execData (n : LaneNo) (s : State) : Answered := .next (settle (sendData n s))

/-- FILL_READ_DONE (R52). -/
def execFillReadDone (fill attempt read : Nat) (result : HostRead) (s : State) : Answered :=
  .next (settle (fillRead fill attempt read result s))

/-- FILL_READ_TIMEOUT (R53). -/
def execFillReadTimeout (fill attempt read : Nat) (s : State) : Answered :=
  .next (settle (fillExpired fill attempt read s))

/-- COMPARE_DONE (R116). -/
def execCompareDone (u : UnitNo) (s : State) : Answered := .next (settle (compareEnds u s))

/-- DIAG_COMPARE_DONE (R117). -/
def execDiagCompareDone (u : UnitNo) (faulty : List Nat) (s : State) : Answered :=
  .next (settle (diagCompareEnds u faulty s))

end Sys2Proof.Machine
end

