-- ==== Sys2Proof/Machine/LinkCommands.lean ====
section
/-! DEFINITION. The events of the drive link ports (R91 to R93) and the drive messages (R95 to R101), one definition per row. -/

namespace Sys2Proof.Machine

/-! ### Frames and link state (R91 to R93) -/

/-- LINK_FRAME_FAILED (R91): the count of consecutive failed frames advances; a DOWN port sends no frame. -/
def execLinkFrameFailed (n : LaneNo) (s : State) : Answered :=
  if (s.link n).up then .next (s.setLink n { s.link n with fails := min 8 ((s.link n).fails + 1) }) else .next s

/-- LINK_FRAME_GOOD (R91): the count is 0; a frame that finished delivering the oldest message of the lane takes it off the port
(R95). A port whose count has reached 8 is going DOWN. -/
def execLinkFrameGood (n : LaneNo) (finished : Bool) (s : State) : Answered :=
  let l := s.link n
  if l.up ∧ l.fails < 8 then
    .next (s.setLink n { l with fails := 0, outbound := if finished then l.outbound.tail else l.outbound })
  else .next s

/-- The drive messages a port still holds, delivered in order, each with the reports it makes (R92). -/
def deliverHeld (n : LaneNo) (held : List DriveMsg) (s : State) : State :=
  held.foldl (fun t m => settle (deliver n m t)) s

/-- LINK_DOWN (R92): the eighth consecutive failed frame, whether or not its failure has been counted; a port already DOWN does not
go DOWN again. -/
def execLinkDown (n : LaneNo) (held : List DriveMsg) (s : State) : Answered :=
  if (s.link n).up ∧ 7 ≤ (s.link n).fails then .next (settle (portDown n (deliverHeld n held s))) else .next s

/-- LINK_UP (R93): a training round completes on a port that is DOWN. -/
def execLinkUp (n : LaneNo) (s : State) : Answered :=
  if (s.link n).up then .next s else .next (settle (portUp n s))

/-! ### Drive messages (R95, R99) -/

/-- MEDIA (R67). -/
def execMedia (n : LaneNo) (mediaClass : BitVec 8) (blank : Bool) (capacity : BitVec 32) (rates : List (BitVec 16))
    (s : State) : Answered :=
  .next (settle (deliver n (.media mediaClass blank capacity rates) s))

/-- SPEED_ACK (R77). -/
def execSpeedAck (n : LaneNo) (rate : BitVec 16) (s : State) : Answered := .next (settle (deliver n (.speedAck rate) s))

/-- SPEED_REFUSED (R77). -/
def execSpeedRefused (n : LaneNo) (rate : BitVec 16) (s : State) : Answered :=
  .next (settle (deliver n (.speedRefused rate) s))

/-- OPEN_ACK (R69). -/
def execOpenAck (n : LaneNo) (s : State) : Answered := .next (deliver n .openAck s)

/-- CREDIT (R71). -/
def execCredit (n : LaneNo) (count : BitVec 8) (s : State) : Answered := .next (deliver n (.credit count) s)

/-- GAP (R72). -/
def execGap (n : LaneNo) (s : State) : Answered := .next (settle (deliver n .gap s))

/-- CLOSED (R78). -/
def execClosed (n : LaneNo) (s : State) : Answered := .next (settle (deliver n .closed s))

/-- RDATA (R110). -/
def execRdata (n : LaneNo) (sector : BitVec 32) (status : SectorStatus) (bytes : List Byte) (s : State) : Answered :=
  .next (settle (deliver n (.rdata sector status bytes) s))

/-- TRAY_STATE (R103). -/
def execTrayState (n : LaneNo) (tray : TrayValue) (present : Bool) (s : State) : Answered :=
  .next (settle (deliver n (.trayState tray present) s))

/-- FAULT (R101). -/
def execFault (n : LaneNo) (code : BitVec 16) (s : State) : Answered := .next (settle (deliver n (.fault code) s))

/-- MALFORMED_MESSAGE (R98). -/
def execMalformedMessage (n : LaneNo) (s : State) : Answered := .next (deliver n .malformed s)

end Sys2Proof.Machine
end

