-- ==== Sys2Proof/Machine/PrinterCommands.lean ====
section
/-! DEFINITION. The events of the Label Printer (R148 to R159): its tray, the due times and phases of lines, the line reads, the
holds and the ribbon-out input, one definition per row. -/

namespace Sys2Proof.Machine

/-! ### Limits, in microseconds (R148, R152, R156) -/

def trayMoveLimit : Nat := 5000000
def lineReadLimit : Nat := 50000
def hotSampleTime : Nat := 10000
def supplySampleTime : Nat := 1000
def hotHoldLimit : Nat := 30000000
def supplyWaitLimit : Nat := 500000

/-! ### The tray (R148, R149, R151) -/

/-- A tray move ends at a position, its timer stopped (R148). -/
def trayMoveEnds (p : TrayPos) (s : State) : State := updPrinter (fun x => { x with tray := p, move := none }) s

/-- PRINTER_TRAY_HOME_TRIP (R148, R149): the end of a home seek. -/
def execPrinterTrayHomeTrip (s : State) : Answered :=
  if s.printer.move = some .homeSeek then .next (settle (servePresent (trayMoveEnds .home s))) else .next s

/-- RETRACT_DONE (R148, R151): the tray is at line 0, and the print starts. -/
def execRetractDone (sample : Sample) (s : State) : Answered :=
  if s.printer.move = some .retract ∧ s.printer.state = .loaded then
    .next (settle (printStart sample (trayMoveEnds (.line 0) s)))
  else .next s

/-- The next line is due and waits for what was missing, in PRINTING (R153, R155). -/
def lineWaits (p : Printer) : Bool := decide (p.state = .printing) && decide (p.line = .waiting)

/-- LINE_ADVANCE_DONE (R148, R155): a due line that waited for its advance is struck; after a print that has ended meanwhile, a
standing present request is served (R149): its home seek waited for the advance (DESIGN CHOICE, assumption log 78). -/
def execLineAdvanceDone (s : State) : Answered :=
  if s.printer.move = some .advance then
    let s1 := trayMoveEnds (.line s.printer.nextLine) s
    .next (settle (if lineWaits s.printer then tryStrike s1 else servePresent s1))
  else .next s

/-- The present request is answered with the loss of the tray in STARTING (R149, R165). -/
def answerLost (s : State) : State :=
  if s.port.part = .starting ∧ s.printer.present then
    (updPrinter (fun p => { p with present := false }) s).emit .presentLost
  else s

/-- A tray move has failed (R148, R159, R165). A present request that stands waits for CLEAR_PRINTER, with no home seek of the FAULTED
printer: R149 says so of a home seek that fails; that it holds too where a line advance or a retract fails, such as an advance left
running by a read failure's end while the request stands in FINISHED, is the model's (DESIGN CHOICE, assumption log 76). A printer
FAULTED already keeps its cause (assumption log 39). -/
def trayMoveFails (s : State) : State := answerLost (printerFail .trayTimeout (trayMoveEnds .lost s))

/-- PRINTER_TRAY_TIMEOUT (R148). -/
def execPrinterTrayTimeout (s : State) : Answered :=
  if s.printer.move.isSome then .next (settle (trayMoveFails (s.advanceTo (s.printer.moveStart + trayMoveLimit))))
  else .next s

/-! ### Lines (R153, R155) -/

/-- A line's due time is taken (R153). -/
def lineDue (s : State) : State :=
  match lineReady s.printer s.printer.nextLine with
  | some _ => tryStrike s
  | none => starveLine s

/-- LINE_DUE (R153). -/
def execLineDue (s : State) : Answered :=
  match s.printer.state, s.printer.line with
  | .printing, .waitDue d => .next (settle (lineDue (s.advanceTo d)))
  | _, _ => .next s

/-- A phase of a strike has ended: the next one that is not left out begins, or the line is struck (R155). -/
def phaseEnds (k : Strike) (phase lineStart : Nat) (sample : Sample) (s : State) : State :=
  match k.next phase with
  | some next =>
    updPrinter (fun p => { p with line := .striking next s.now lineStart, head := headInPhase p k next }) s
  | none => afterLine lineStart k.period (lineStruck k sample s)

/-- STRIKE_PHASE_END (R155). -/
def execStrikePhaseEnd (sample : Sample) (s : State) : Answered :=
  match s.printer.line, s.printer.strike with
  | .striking phase start lineStart, some k =>
    .next (settle (phaseEnds k phase lineStart sample (s.advanceTo (start + k.length phase))))
  | _, _ => .next s

/-! ### Line reads (R152) -/

/-- The printer strikes a line. -/
def isStriking (p : Printer) : Bool :=
  match p.line with
  | .striking _ _ _ => true
  | _ => false

/-- When the read of an attempt of a line of the print in progress was issued; absent for any other completion, which is discarded
(R152). -/
def liveLineRead (p : Printer) (print line attempt : Nat) : Option Nat :=
  match lineSlot p line with
  | .reading i a t => if print = p.print ∧ i = line ∧ a = attempt then some t else none
  | _ => none

/-- A line's read fails: it is issued again, or the label is incomplete after the third attempt, at the end of the strike in progress
or at once (R152). -/
def lineReadFails (line attempt : Nat) (s : State) : State :=
  if attempt < 3 then setSlot line (.reading line (attempt + 1) s.now) s
  else if isStriking s.printer then updPrinter (fun p => { p with readFailed := true }) s
  else endOnRead s

/-- A line's read completes good: its slot is ready, and a held line is struck (R152, R153). -/
def lineReadGood (line : Nat) (bs : List Byte) (s : State) : State :=
  let s1 := setSlot line (.ready line (fitBytes 168 bs)) s
  if lineWaits s.printer ∧ line = s.printer.nextLine then tryStrike s1 else s1

/-- LINE_READ_DONE (R152). -/
def execLineReadDone (print line attempt : Nat) (result : HostRead) (s : State) : Answered :=
  match liveLineRead s.printer print line attempt with
  | some _ =>
    match result with
    | .data bs => .next (settle (lineReadGood line bs s))
    | .error => .next (settle (lineReadFails line attempt s))
  | none => .next s

/-- LINE_READ_TIMEOUT (R152). -/
def execLineReadTimeout (print line attempt : Nat) (s : State) : Answered :=
  match liveLineRead s.printer print line attempt with
  | some t => .next (settle (lineReadFails line attempt (s.advanceTo (t + lineReadLimit))))
  | none => .next s

/-! ### Holds (R156) -/

/-- A hold ends: PRINTING, and the computation for the held line anew (R147, R156). -/
def resumePrint (s : State) : State := tryStrike (changePrinter (fun p => { p with state := .printing }) s)

/-- A sample of a hold stored (R156). -/
def holdSample (sample : Sample) (s : State) : State :=
  updPrinter (fun p => { p with sample := sample, sampledAt := s.now }) s

/-- A sample of HOT_HOLD judged (R156). -/
def judgeHot (sample : Sample) (s : State) : State :=
  let s1 := holdSample sample s
  if sensorFault sample.thermistor.toNat then printerFail .sensor s1
  else if temperature s.printer.profile sample.thermistor.toNat ≤ s.printer.profile.tmax - 20 then resumePrint s1
  else s1

/-- HOT_HOLD_SAMPLE (R156). -/
def execHotHoldSample (sample : Sample) (s : State) : Answered :=
  if s.printer.state = .hotHold ∧ ¬ s.printer.halt then
    .next (settle (judgeHot sample (s.advanceTo (s.printer.sampledAt + hotSampleTime))))
  else .next s

/-- A sample of SUPPLY_WAIT judged (R156). -/
def judgeSupply (sample : Sample) (s : State) : State :=
  let s1 := holdSample sample s
  if sensorFault sample.thermistor.toNat then printerFail .sensor s1
  else if s.printer.profile.vmin + 200 ≤ supplyVolts sample.supply.toNat then resumePrint s1
  else s1

/-- SUPPLY_WAIT_SAMPLE (R156). -/
def execSupplyWaitSample (sample : Sample) (s : State) : Answered :=
  if s.printer.state = .supplyWait ∧ ¬ s.printer.halt then
    .next (settle (judgeSupply sample (s.advanceTo (s.printer.sampledAt + supplySampleTime))))
  else .next s

/-- HEAD_HOT (R156, R159). -/
def execHeadHot (s : State) : Answered :=
  if s.printer.state = .hotHold ∧ ¬ s.printer.halt then
    .next (settle (printerFail .headHot (s.advanceTo (s.printer.holdStart + hotHoldLimit))))
  else .next s

/-- SUPPLY_LOW (R156, R159). -/
def execSupplyLow (s : State) : Answered :=
  if s.printer.state = .supplyWait ∧ ¬ s.printer.halt then
    .next (settle (printerFail .supplyLow (s.advanceTo (s.printer.holdStart + supplyWaitLimit))))
  else .next s

/-! ### The ribbon (R155, R159) -/

/-- A ribbon-out taken by the printer's state: after the strike in progress, at once, or not at all in FINISHED, FAULTED or while
halted (R155, R159, R161). -/
def takeRibbonOut (s : State) : State :=
  if s.printer.halt ∨ s.printer.state = .finished ∨ s.printer.state = .faulted then s
  else if isStriking s.printer then updPrinter (fun p => { p with ribbonPending := true }) s
  else ribbonFails s

/-- RIBBON_OUT (R159). -/
def execRibbonOut (s : State) : Answered :=
  .next (settle (takeRibbonOut { s with pins := { s.pins with ribbonOut := true } }))

end Sys2Proof.Machine
end

