-- ==== Sys2Proof/Machine/UnitRequests.lean ====
section
/-! DEFINITION. The requests of the lanes, the Disc Transport and the Label Printer: SET_LANE, TAKE_COUNTS, DIAGNOSE_LANE, REFILL,
EMPTIED, CLEAR_TRANSPORT, CLEAR_PRINTER and SET_PROFILE, and the answer to an unknown kind. -/

namespace Sys2Proof.Machine

/-! ### SET_LANE (R84, R85) -/

/-- SET_LANE accepted: the cap, the enable flag's effect, the status block (R84). -/
def setLane (n : LaneNo) (enable : Bool) (cap : Nat) (s : State) : State :=
  let s1 := s.updLane n fun l => { l with cap := cap }
  writeLane n (if enable then enableLane n s1 else if (s.lane n).enabled then disableLane n s1 else s1)

/-- SET_LANE as the lane takes it (R84). -/
def takeSetLane (e : List Byte) (s : State) : Answer :=
  match reqLane e with
  | none => refuse .badField s
  | some n => if capLegal (reqCap e) then accept (setLane n (reqEnable e) (reqCap e) s) else refuse .badField s

/-- SET_LANE (R84). -/
def execSetLane (s : State) : Answered := .next (runEntry .setLane takeSetLane s)

/-! ### TAKE_COUNTS (R82) -/

/-- TAKE_COUNTS as the lane takes it (R82). -/
def takeTakeCounts (e : List Byte) (s : State) : Answer :=
  match reqLane e with
  | none => refuse .badField s
  | some n =>
    ⟨.ok, counterBytes (s.lane n).counters ++ byte (saturatedByte (s.lane n).counters),
      writeLane n (s.updLane n fun l => { l with counters := LaneCounters.zero })⟩

/-- TAKE_COUNTS (R82). -/
def execTakeCounts (s : State) : Answered := .next (runEntry .takeCounts takeTakeCounts s)

/-! ### DIAGNOSE_LANE (R89) -/

/-- The serial a diagnosis uses: the job's next serial, or the limit if it exceeds that (R89). -/
def diagSerial (j : Job) : Option Nat :=
  match jobLimit j, j.nextSerial with
  | some lim, some n => some (min n lim)
  | _, _ => none

/-- DIAGNOSE_LANE as the lane takes it (R89). -/
def takeDiagnoseLane (e : List Byte) (s : State) : Answer :=
  match reqLane e, reqDiagSlot e with
  | none, _ => refuse .badField s
  | some _, none => refuse .badSlot s
  | some n, some j =>
    if (s.lane n).diag.isSome then refuse .busy s
    else if (s.lane n).state ≠ .idle ∧ (s.lane n).state ≠ .offline then refuse .badState s
    else if (s.job j).state = .free then refuse .badState s
    else if reqPageCount e < 1 ∨ 64 < reqPageCount e ∨
        pageCount (imageSectors s j) < reqFirstPage e + reqPageCount e then refuse .badField s
    else accept ((diagStart n j (reqFirstPage e) (reqPageCount e) (diagSerial (s.job j)) s).emit .stalls)

/-- DIAGNOSE_LANE (R89). -/
def execDiagnoseLane (s : State) : Answered := .next (runEntry .diagnoseLane takeDiagnoseLane s)

/-! ### REFILL and EMPTIED (R126) -/

/-- A spindle whose EMPTY or FULL flag has cleared brings a dispatch pass, lets the arm select, and clears a stall flag (R125, R19,
R129, R21). -/
def flagCleared (was : Bool) (s : State) : State :=
  if was then ((s.emit .dispatch).emit .stalls).emit .select else s

/-- An input spindle refilled (R126). -/
def refillSpindle (k : StationNo) (count : Nat) (s : State) : State :=
  let e := { s.entry k with count := count, empty := false }
  flagCleared (s.entry k).empty (writeEntry k (s.setEntry k { e with occupancy := spindleOccupancy k e }))

/-- REFILL as TR takes it (R126). -/
def takeRefill (e : List Byte) (s : State) : Answer :=
  match reqInput e with
  | none => refuse .badField s
  | some x =>
    if (s.station (spindleStation x)).capacity < reqFill e then refuse .badField s
    else accept (refillSpindle (spindleStation x) (reqFill e) s)

/-- REFILL (R126). -/
def execRefill (s : State) : Answered := .next (runEntry .refill takeRefill s)

/-- The output or the reject spindle emptied (R126). -/
def emptySpindle (k : StationNo) (s : State) : State :=
  let e := { s.entry k with count := 0, full := false }
  flagCleared (s.entry k).full (writeEntry k (s.setEntry k { e with occupancy := spindleOccupancy k e }))

/-- EMPTIED as TR takes it (R126). -/
def takeEmptied (e : List Byte) (s : State) : Answer :=
  match reqEmptied e with
  | none => refuse .badField s
  | some k => accept (emptySpindle k s)

/-- EMPTIED (R126). -/
def execEmptied (s : State) : Answered := .next (runEntry .emptied takeEmptied s)

/-! ### CLEAR_TRANSPORT (R141) -/

/-- CLEAR_TRANSPORT as TR takes it (R141). -/
def takeClearTransport (_e : List Byte) (s : State) : Answer :=
  if (s.transport.arm = .stopped ∨ s.transport.arm = .faulted) ∧ ¬ s.pins.stop then accept (beginHoming s)
  else refuse .badState s

/-- CLEAR_TRANSPORT (R141). -/
def execClearTransport (s : State) : Answered := .next (runEntry .clearTransport takeClearTransport s)

/-! ### CLEAR_PRINTER (R160) and SET_PROFILE (R163) -/

/-- The fault cause is cleared; a home seek under way for a standing request gives way to a new one (R160). -/
def Printer.cleared (p : Printer) : Printer :=
  { p with cause := none, move := if p.present ∧ p.move = some .homeSeek then none else p.move }

/-- A FAULTED printer cleared: its new state by what it holds; a standing present request gets a new home seek at once (R160). -/
def clearPrinter (s : State) : State :=
  match s.printer.disc with
  | some _ => finishPrinter (updPrinter Printer.cleared s)
  | none =>
    if (s.entry stationPrinter).occupancy = .empty then
      servePresent ((changePrinter (fun p => { p.cleared with state := .empty }) s).emit .select)
    else finishPrinter (updPrinter (fun p => { p.cleared with disc := some .orphan }) s)

/-- CLEAR_PRINTER as LP takes it (R160). -/
def takeClearPrinter (ribbonOut : Bool) (_e : List Byte) (s : State) : Answer :=
  let s1 := { s with pins := { s.pins with ribbonOut := ribbonOut } }
  if s.printer.state = .faulted ∧ ¬ ribbonOut then accept (clearPrinter s1) else refuse .badState s1

/-- CLEAR_PRINTER (R160). -/
def execClearPrinter (ribbonOut : Bool) (s : State) : Answered :=
  .next (runEntry .clearPrinter (takeClearPrinter ribbonOut) s)

/-- The bytes of a profile record (11.8). -/
def profileRecordSize : Nat := 64

/-- SET_PROFILE as LP takes it (R163). -/
def takeSetProfile (record : HostRead) (e : List Byte) (s : State) : Answer :=
  if s.printer.state ≠ .empty then refuse .busy s
  else if ¬ windowCheck s.port (reqAddress e) profileRecordSize then refuse .badAddress s
  else
    match record with
    | .error => refuse .badAddress s
    | .data bs =>
      let p := profileOfBytes (fitBytes profileRecordSize bs)
      if profileLegal p then accept (writePrinter (updPrinter (fun x => { x with profile := p }) s)) else refuse .badField s

/-- SET_PROFILE (R163). -/
def execSetProfile (record : HostRead) (s : State) : Answered :=
  .next (runEntry .setProfile (takeSetProfile record) s)

/-! ### UNKNOWN_KIND (R183) -/

/-- UNKNOWN_KIND (R183): the next entry, of a kind not known, in every part state. -/
def execUnknownKind (s : State) : Answered :=
  match nextEntry s with
  | some e => if entryKind e = none then .next (finishEntry .unknownKind [] s) else .next s
  | none => .next s

end Sys2Proof.Machine
end

