-- ==== Sys2Proof/Machine/Dispatch.lean ====
section
/-! DEFINITION. The meaning of every command: one arm per row of spec/opcode_table.json, in its order. -/

namespace Sys2Proof.Machine

/-- What a command does to everything but the queue of waiting commands. -/
def exec (i : Instr) (s : State) : Host.Outcome State Fault Refusal :=
  match i with
  | .pinReset sense => Sys2Proof.Machine.execPinReset sense s
  | .run causeEnables logEnables config => Sys2Proof.Machine.execRun causeEnables logEnables config s
  | .stop causeEnables logEnables => Sys2Proof.Machine.execStop causeEnables logEnables s
  | .softReset causeEnables logEnables sense => Sys2Proof.Machine.execSoftReset causeEnables logEnables sense s
  | .enablesWrite causeEnables logEnables => Sys2Proof.Machine.execEnablesWrite causeEnables logEnables s
  | .windowBaseWrite value => Sys2Proof.Machine.execWindowBaseWrite value s
  | .windowSizeWrite value => Sys2Proof.Machine.execWindowSizeWrite value s
  | .sheetWrite address => Sys2Proof.Machine.execSheetWrite address s
  | .causeRead => Sys2Proof.Machine.execCauseRead s
  | .registerWriteIgnored offset width value => Sys2Proof.Machine.execRegisterWriteIgnored offset width value s
  | .sheetRead header entries => Sys2Proof.Machine.execSheetRead header entries s
  | .admitJob record strip => Sys2Proof.Machine.execAdmitJob record strip s
  | .holdJob => Sys2Proof.Machine.execHoldJob s
  | .resumeJob => Sys2Proof.Machine.execResumeJob s
  | .abortJob => Sys2Proof.Machine.execAbortJob s
  | .clearJob => Sys2Proof.Machine.execClearJob s
  | .exchangeLabel => Sys2Proof.Machine.execExchangeLabel s
  | .releaseDiscs => Sys2Proof.Machine.execReleaseDiscs s
  | .setLane => Sys2Proof.Machine.execSetLane s
  | .takeCounts => Sys2Proof.Machine.execTakeCounts s
  | .diagnoseLane => Sys2Proof.Machine.execDiagnoseLane s
  | .refill => Sys2Proof.Machine.execRefill s
  | .emptied => Sys2Proof.Machine.execEmptied s
  | .clearTransport => Sys2Proof.Machine.execClearTransport s
  | .clearPrinter ribbonOut => Sys2Proof.Machine.execClearPrinter ribbonOut s
  | .setProfile record => Sys2Proof.Machine.execSetProfile record s
  | .unknownKind => Sys2Proof.Machine.execUnknownKind s
  | .rosterRecordRead record => Sys2Proof.Machine.execRosterRecordRead record s
  | .stopAsserted => Sys2Proof.Machine.execStopAsserted s
  | .stopCleared => Sys2Proof.Machine.execStopCleared s
  | .linkFrameFailed lane => Sys2Proof.Machine.execLinkFrameFailed lane s
  | .linkFrameGood lane finished => Sys2Proof.Machine.execLinkFrameGood lane finished s
  | .linkDown lane held => Sys2Proof.Machine.execLinkDown lane held s
  | .linkUp lane => Sys2Proof.Machine.execLinkUp lane s
  | .media lane mediaClass blank capacity rates => Sys2Proof.Machine.execMedia lane mediaClass blank capacity rates s
  | .speedAck lane rate => Sys2Proof.Machine.execSpeedAck lane rate s
  | .speedRefused lane rate => Sys2Proof.Machine.execSpeedRefused lane rate s
  | .openAck lane => Sys2Proof.Machine.execOpenAck lane s
  | .credit lane count => Sys2Proof.Machine.execCredit lane count s
  | .gap lane => Sys2Proof.Machine.execGap lane s
  | .closed lane => Sys2Proof.Machine.execClosed lane s
  | .rdata lane sector status bytes => Sys2Proof.Machine.execRdata lane sector status bytes s
  | .trayState lane tray present => Sys2Proof.Machine.execTrayState lane tray present s
  | .fault lane code => Sys2Proof.Machine.execFault lane code s
  | .malformedMessage lane => Sys2Proof.Machine.execMalformedMessage lane s
  | .mediaTimeout lane => Sys2Proof.Machine.execMediaTimeout lane s
  | .speedTimeout lane => Sys2Proof.Machine.execSpeedTimeout lane s
  | .openTimeout lane => Sys2Proof.Machine.execOpenTimeout lane s
  | .creditStarvation lane => Sys2Proof.Machine.execCreditStarvation lane s
  | .closedTimeout lane => Sys2Proof.Machine.execClosedTimeout lane s
  | .readBlockTimeout lane => Sys2Proof.Machine.execReadBlockTimeout lane s
  | .trayTimeout lane => Sys2Proof.Machine.execTrayTimeout lane s
  | .sectorCopy lane => Sys2Proof.Machine.execSectorCopy lane s
  | .data lane => Sys2Proof.Machine.execData lane s
  | .fillReadDone fill attempt read result => Sys2Proof.Machine.execFillReadDone fill attempt read result s
  | .fillReadTimeout fill attempt read => Sys2Proof.Machine.execFillReadTimeout fill attempt read s
  | .compareDone unit => Sys2Proof.Machine.execCompareDone unit s
  | .diagCompareDone unit faulty => Sys2Proof.Machine.execDiagCompareDone unit faulty s
  | .moveStepDone sense => Sys2Proof.Machine.execMoveStepDone sense s
  | .contactTrip height sense => Sys2Proof.Machine.execContactTrip height sense s
  | .floorReached sense => Sys2Proof.Machine.execFloorReached sense s
  | .shakeDone two => Sys2Proof.Machine.execShakeDone two s
  | .moveTimeout => Sys2Proof.Machine.execMoveTimeout s
  | .liftTopTrip => Sys2Proof.Machine.execLiftTopTrip s
  | .swingHomeTrip sense => Sys2Proof.Machine.execSwingHomeTrip sense s
  | .homeFail => Sys2Proof.Machine.execHomeFail s
  | .printerTrayHomeTrip => Sys2Proof.Machine.execPrinterTrayHomeTrip s
  | .retractDone sample => Sys2Proof.Machine.execRetractDone sample s
  | .lineAdvanceDone => Sys2Proof.Machine.execLineAdvanceDone s
  | .printerTrayTimeout => Sys2Proof.Machine.execPrinterTrayTimeout s
  | .lineDue => Sys2Proof.Machine.execLineDue s
  | .strikePhaseEnd sample => Sys2Proof.Machine.execStrikePhaseEnd sample s
  | .lineReadDone print line attempt result => Sys2Proof.Machine.execLineReadDone print line attempt result s
  | .lineReadTimeout print line attempt => Sys2Proof.Machine.execLineReadTimeout print line attempt s
  | .hotHoldSample sample => Sys2Proof.Machine.execHotHoldSample sample s
  | .supplyWaitSample sample => Sys2Proof.Machine.execSupplyWaitSample sample s
  | .headHot => Sys2Proof.Machine.execHeadHot s
  | .supplyLow => Sys2Proof.Machine.execSupplyLow s
  | .ribbonOut => Sys2Proof.Machine.execRibbonOut s

end Sys2Proof.Machine
end

