-- ==== Sys2Proof/Machine/Step.lean ====
section
/-! DEFINITION. A step of the part: the command at the front of the queue, or one microsecond of the time base. -/

namespace Sys2Proof.Machine

/-- One step: the command at the front of the queue is taken, with the rest of the queue waiting; with none waiting, the time base
counts one microsecond, in which the bridges go on (assumption logs 3 and 37). -/
def step (s : State) : Host.Outcome State Fault Refusal :=
  match s.pending with
  | c :: rest => exec c { s with pending := rest }
  | [] => .next (idleStep s)

/-- The state with the command that a word spells at the front of its queue; no word spells one (assumption log 1). -/
def State.withFetchWord (s : State) (nbits w : Nat) : State :=
  match decodeTableWord nbits w with
  | some c => { s with pending := c :: s.pending }
  | none => s

end Sys2Proof.Machine
end

