-- ==== Sys2Proof/Safety.lean ====
section
/-! DEFINITION. What the statements are written in: the part's invariants, and the situations in which a command is taken. -/

namespace Sys2Proof.Machine

/-! ### Invariants -/

/-- Both memories stand in their canonical form. -/
def MemoriesWf (s : State) : Prop := Memory.wf s.dram = true ∧ Memory.wf s.host = true

/-- No report is left over between steps. -/
def Settled (s : State) : Prop := s.signals = []

/-- The six counters of a lane lie in their widths (R81). -/
def CountersFit (c : LaneCounters) : Prop :=
  c.sectorsWritten.value ≤ max32 ∧ c.gaps.value ≤ max16 ∧ c.downshifts.value ≤ max16 ∧ c.upshifts.value ≤ max16 ∧
    c.discsGood.value ≤ max16 ∧ c.discsRejected.value ≤ max16

/-- The counts of a lane lie in their widths: the six counters, the disc totals, the credits, the write fault run and the stray count
(R62, R72, R81, R83, R100). -/
def LaneFits (l : Lane) : Prop :=
  CountersFit l.counters ∧ (l.totals.gaps ≤ max16 ∧ l.totals.downshifts ≤ max16 ∧ l.totals.upshifts ≤ max16) ∧
    l.credits ≤ max16 ∧ l.faultRun ≤ 3 ∧ l.stray ≤ max16

/-- The counts of a job that hold at their maximum lie in their widths (R12, R15); the copies and the holders of discs and lanes bound its
good, in flight and reserved (R12, R18). -/
def JobFits (j : Job) : Prop := j.issued ≤ max32 ∧ j.rejected ≤ max32 ∧ j.probeRun ≤ 3

/-- The time base, the port's counts, and the counts of every lane and job lie in their widths (2.3, 2.4, R184, R185). -/
def CountsFit (s : State) : Prop :=
  s.port.timeBase ≤ timeMax ∧ s.port.logCount.value ≤ max32 ∧ s.port.updateCount.value ≤ max32 ∧
    (∀ n, LaneFits (s.lane n)) ∧ ∀ j, JobFits (s.job j)

/-- The window registers of two states agree (R176). -/
def SameWindow (s t : State) : Prop :=
  t.port.windowBase = s.port.windowBase ∧ t.port.windowSize = s.port.windowSize

/-- A command that resets the part (R179). -/
def isReset : Instr → Bool
  | .pinReset _ => true
  | .softReset _ _ _ => true
  | _ => false

/-! ### The window -/

/-- The window shows bytes at an offset. -/
def ShowsAt (s : State) (offset : Nat) (bs : List Byte) : Prop :=
  ∀ k, k < bs.length → Memory.read s.host (s.port.windowBase.toNat + offset + k) = bs.getD k 0

/-- The header is written as it then stands, and no other byte of host memory changes (R185). -/
def HeaderPut (s t : State) : Prop := MemoriesWf s →
  ShowsAt t 0 (headerBytes t.port) ∧
    ∀ x, (x < t.port.windowBase.toNat ∨ t.port.windowBase.toNat + 256 ≤ x) → Memory.read t.host x = Memory.read s.host x

/-- The window shows the eight job contexts, the station map and the transport status as they stand (R1, R124, R130). -/
def WindowShows (s : State) : Prop :=
  (∀ j : SlotNo, ShowsAt s (0x2000 + 256 * j.val) (jobBlock (s.job j))) ∧
    (∀ k : StationNo, ShowsAt s (0x4000 + 16 * k.val) (entryBytes (s.entry k))) ∧ ShowsAt s 0x4200 (transportBlock s.transport)

/-- The held sheets lie beyond the part-written region (2.6, R181). -/
def SheetsBeyond (s : State) : Prop :=
  ∀ a : BitVec 64, (∃ h, s.port.current = some h ∧ h.address = a) ∨ s.port.next = some a →
    s.port.windowBase.toNat + 0x18000 ≤ a.toNat

/-! ### Requests -/

/-- The kind of request a command runs; the other commands run none (R183). -/
def requestKind : Instr → Option RequestKind
  | .admitJob _ _ => some .admitJob
  | .holdJob => some .holdJob
  | .resumeJob => some .resumeJob
  | .abortJob => some .abortJob
  | .clearJob => some .clearJob
  | .exchangeLabel => some .exchangeLabel
  | .releaseDiscs => some .releaseDiscs
  | .setLane => some .setLane
  | .takeCounts => some .takeCounts
  | .diagnoseLane => some .diagnoseLane
  | .refill => some .refill
  | .emptied => some .emptied
  | .clearTransport => some .clearTransport
  | .clearPrinter _ => some .clearPrinter
  | .setProfile _ => some .setProfile
  | _ => none

/-- The next entry of the taken sheet is a request of a kind, and the part is RUNNING (R182, R183). -/
def AtEntry (k : RequestKind) (e : List Byte) (s : State) : Prop :=
  nextEntry s = some e ∧ entryKind e = some k ∧ s.port.part = .running

/-! ### The arm -/

/-- The arm is carrying out a task and stands in one of its phases (R131). -/
def ArmAt (c : ArmTask) (p : ArmPhase) (s : State) : Prop :=
  s.transport.arm = .moving ∧ s.transport.current = some c ∧ c.phase = p

/-- The station a task's move is bound for: the source up to the rise from it, a LOAD's rise from its spindle leading away; the
destination from the carry on (R138; DEDUCED, assumption log 18). -/
def MoveLeadsTo (c : ArmTask) (k : StationNo) : Prop :=
  (∀ d, c.phase ∈ [.lift d, .swing d, .waitTray d, .descend d, .search d] → k = if d then c.task.dest else c.task.source) ∧
    (∀ d, c.phase = .rise d → k = if d = true ∨ c.task.kind = .load then c.task.dest else c.task.source) ∧
    (∀ i, c.phase = .shake i → k = c.task.source) ∧ (c.phase = .waitFull → k = c.task.dest)

/-- From a state to the one after a failure in STARTING is taken: the part FAULTED, with the header written; in another part state
nothing changes (R145, R185). -/
def FailsStarting (s t : State) : Prop :=
  (s.port.part ≠ .starting → t = s) ∧
    (s.port.part = .starting → let p : Port := { s.port with part := .faulted }
      t = { s with port := p, host := Memory.writeBytes s.host s.port.windowBase.toNat (headerBytes p) })

/-! ### Reservations and pins -/

/-- `t` is `s` with the reservation of a lane for a disc ended without the disc (R13, R20): one reservation fewer, the record freed with
its passes, the lane's part, and the test of the job's counts. -/
def ReservationEnds (n : LaneNo) (d : DiscRef) (s t : State) : Prop :=
  ∃ v : State, t = testCounts d.slot (endReservation n v) ∧ v.disc d.index = none ∧ (∀ i, i ≠ d.index → v.disc i = s.disc i) ∧
    v.job d.slot = { s.job d.slot with reserved := (s.job d.slot).reserved - 1 } ∧ (∀ j, j ≠ d.slot → v.job j = s.job j) ∧
    v = { s with
      port := v.port, jobs := v.jobs, roster := v.roster, host := v.host, signals := s.signals ++ [.dispatch, .stalls] }

/-- A job's counts balance: every disc issued is good, rejected or in flight (R12). -/
def Balanced (j : Job) : Prop := j.issued = j.good + j.rejected + j.inFlight

/-- A record of a size holds fields, each given by its offset, its bytes and its value, the least significant byte first; every byte that
no field names is zero (R188). -/
def RecordHolds (size : Nat) (bs : List Byte) (fields : List (Nat × Nat × Nat)) : Prop :=
  bs.length = size ∧ (∀ f, f ∈ fields → ∀ k, k < f.2.1 → bs.getD (f.1 + k) 0 = BitVec.ofNat 8 (f.2.2 / 256 ^ k)) ∧
    ∀ k, (∀ f, f ∈ fields → k < f.1 ∨ f.1 + f.2.1 ≤ k) → bs.getD k 0 = 0

/-- From a state the current task ends, the printer's tray marked EMPTY (R146). -/
def SweptTray (s t : State) : Prop :=
  ∃ v, t = endTask v ∧ v.entry stationPrinter = { s.entry stationPrinter with occupancy := .empty, disc := none } ∧
    (∀ k, k ≠ stationPrinter → v.entry k = s.entry k) ∧
    v = { s with port := v.port, transport := { s.transport with map := v.transport.map }, host := v.host }

/-- Every frame's pin count is the number of the lanes' pins that stand on it (R47, R48). -/
def PinsStand (s : State) : Prop :=
  ∀ f, (s.frame f).pinCount = (allLanes.map fun n => (s.lane n).pins.countP fun p => decide (p.frame = some f)).sum

/-! ### Memory -/

/-- Two memories hold the same byte at every address but those of an extent. -/
def SameOutside (a n : Nat) (m m' : Memory) : Prop :=
  ∀ x, x < a ∨ a + n ≤ x → Memory.read m' x = Memory.read m x

end Sys2Proof.Machine
end

