-- ==== Sys2Proof/Certificates/Slice0/Obligations.lean ====
section
/-! DEFINITION. The statements about the model: for every command what it does and what it leaves, the operations the commands share,
and the properties of every step. Each docstring names the rules it follows. -/

open Sys2Proof Sys2Proof.Machine

/-! ### Steps -/

/-- A step takes the command at the front of the queue with the rest waiting. With none waiting it is one microsecond: the time base
counts it, holding at the 48-bit maximum, the motors' bridges go on, one free value is drawn, and nothing else changes (00_scope 2.3;
the queue, the idle microsecond, its bridges and its free value are the model's choice, logs 1, 3, 37 and 53). The reports that blocks
make to one another within a command are taken one by one, the first made first, until none is left (the model's order, logs 8
and 25). -/
def Obligations.StepTakesFrontCommand : Prop :=
  (∀ (c : Instr) (rest : List Instr) (s : State), s.pending = c :: rest → step s = exec c { s with pending := rest }) ∧
  (∀ s : State, s.pending = [] → step s =
    .next { s with
      port := { s.port with timeBase := if s.port.timeBase < timeMax then s.port.timeBase + 1 else timeMax }
      bridges := (driveBridges s).bridges
      draws := s.draws + 1 }) ∧
  (∀ s : State, s.signals = [] → settle s = s) ∧
  ∀ (k : Nat) (sig : Signal) (rest : List Signal) (s : State), s.signals = sig :: rest →
    settleN (k + 1) s = settleN k (takeSignal sig { s with signals := rest })

/-! ### Registers and pins (chapter 10) -/

/-- PIN_RESET and SOFT_RESET (R179 and the reset clauses of the chapters): every block is at its reset values, the gripper's readings are
the sensors', and a soft reset alone keeps WINDOW_BASE and WINDOW_SIZE. Host memory, the DRAM's bytes, the STOP level, the waiting
commands and the model's numbers of fills, prints and free values are kept (log 9, DEDUCED), and the ribbon-out level is the one the
command brings (log 11, DESIGN CHOICE); dead time, hold duty and the positions while not valid are 0, a lane's offered rates, which R62's
reset list does not name, are the empty list, and the bridges' legs are off, the off times 0 (log 50, DESIGN CHOICE). -/
def Obligations.ResetReturnsPart : Prop :=
  ∀ (sense : Sensors) (ce le : BitVec 6) (s : State),
    ∃ t, exec (.pinReset sense) s = .next t ∧
      t.port = ⟨0, 0, .stopped, false, 0, 0, 0, none, none, ⟨0, false⟩, ⟨0, false⟩, 0, 0⟩ ∧
      t.jobs = Vector.replicate 8 Job.reset ∧ t.roster = ⟨Vector.replicate 256 none, none⟩ ∧
      t.frames = Vector.replicate 4096 Frame.reset ∧ t.fetch = ⟨[], 0, Vector.replicate 8 none, s.fetch.nextFill⟩ ∧
      t.lanes = Vector.replicate 16 Lane.reset ∧ t.links = Vector.replicate 16 ⟨false, 0, []⟩ ∧
      t.verify = ⟨Vector.replicate 4 CompareUnit.reset, [], 0⟩ ∧
      t.transport = { Transport.reset with discPresent := sense.discPresent, thicknessTwo := sense.thicknessTwo } ∧
      t.printer = { Printer.reset with print := s.printer.print } ∧
      t.bridges = Vector.replicate 3 (Vector.replicate 4 Leg.reset) ∧ t.draws = s.draws ∧
      t.dram = s.dram ∧ t.host = s.host ∧ t.pins = { s.pins with ribbonOut := sense.ribbonOut } ∧ t.pending = s.pending ∧ t.signals = [] ∧
      exec (.softReset ce le sense) s =
        .next { t with port := { t.port with windowBase := s.port.windowBase, windowSize := s.port.windowSize } }

/-- RUN (R177, R180 and the RUN clauses of the chapters). Accepted: STARTING, the enables and the log classes loaded, job contexts,
station map and printer at their reset values with the configured tables, every lane UNKNOWN with its configuration, without disc, refuse
mark, FIFO, credits, write positions, pace, totals, speed request, rates or ceiling and with its counters, fault run, stray count and
diagnosis kept (R88), the roster clean at record 0; the drive links, the cache and the compare units stand, and so do the lanes' pins, the
wait for a tray answer, and the arm's state, gripper, positions and timer (log 10, DEDUCED), and the model's numbers of prints and free
values and the bridges (log 9, DEDUCED). Not accepted: REFUSED outside STOPPED, CONFIG for an invalid window or configuration block or a
read that failed; but for the enables nothing else changes. A block is valid where its version is IDENT's and its fields, at the offsets
of 11.3, lie in their ranges; a window where its base and size are whole 64 KiB, its size is 1 MiB to 1 TiB, and it ends within the host's
addresses. CAUSE, the held sheets, the log count and the time base are kept. The window shows the header, the eight jobs, the sixteen
lanes, the map, the transport and the printer as they then stand, each region counted once in the update count; every other byte is kept.
-/
def Obligations.RunJudged : Prop :=
  (∀ (ce le : BitVec 6) (bs : List Byte) (c : ConfigBlock) (s : State),
      s.port.part = .stopped → windowValid s.port = true → c = configOfBytes (fitBytes 4096 bs) → configLegal c = true →
      ∃ u, exec (.run ce le (.data bs)) s = .next (settle u) ∧
        u.port = { s.port with
          part := .starting, causeEnables := ce, logEnables := c.logClasses
          updateCount := (List.range 47).foldl (fun m _ => m.advance max32) s.port.updateCount } ∧
        (Memory.wf s.host = true →
          ShowsAt u 0 (headerBytes u.port) ∧ WindowShows u ∧
          (∀ n : LaneNo, ShowsAt u (0x3000 + 128 * n.val) (laneBlock (u.lane n) (s.link n).up)) ∧
          ShowsAt u 0x4800 (printerBlock u.printer) ∧
          ∀ a, (∀ r, r ∈ [(0, 0x100), (0x2000, 0x800), (0x3000, 0x800), (0x4000, 0x150), (0x4200, 0x40), (0x4800, 0x40)] →
              a < s.port.windowBase.toNat + r.1 ∨ s.port.windowBase.toNat + r.1 + r.2 ≤ a) →
            Memory.read u.host a = Memory.read s.host a) ∧
        u.jobs = Vector.replicate 8 Job.reset ∧ u.roster = ⟨Vector.replicate 256 none, some 0⟩ ∧
        (∀ n, u.lane n = { s.lane n with
          state := .unknown, enabled := c.laneEnables.getLsbD n.val, cap := c.laneCaps[n]
          trail := if (s.lane n).state = .unknown then (s.lane n).trail
            else lastEight ((s.lane n).trail ++ [(.unknown, s.port.timeBase)])
          disc := none, inTray := false, orphan := false, refuse := none, uncounted := none, restPending := false
          fifo := [], credits := 0, nextCopy := 0, nextSend := 0, pace := ⟨0, 0, 0, 0⟩, totals := ⟨0, 0, 0⟩
          speedReq := none, offered := [], ceiling := none, rate := none
          waits := { Waits.none with tray := (s.lane n).waits.tray.map fun w => { w with purpose := .stale false } } }) ∧
        u.transport = { s.transport with
          stations := c.stations, deadTime := c.deadTime, holdDuty := c.holdDuty, map := Vector.replicate 21 StationEntry.reset,
          current := none, queue := Vector.replicate 17 none, positions := 0, lastCause := none, sweep := none, homeDue := false } ∧
        u.printer = { Printer.reset with profile := c.profile, print := s.printer.print } ∧
        u.frames = s.frames ∧ u.fetch = s.fetch ∧ u.dram = s.dram ∧ u.links = s.links ∧ u.verify = s.verify ∧ u.pins = s.pins ∧
        u.bridges = s.bridges ∧ u.draws = s.draws ∧
        u.signals = s.signals ∧ u.pending = s.pending) ∧
  (∀ b : List Byte,
    let c := configOfBytes b
    (c.version = fieldAt b 0 4 ∧ c.laneEnables = BitVec.ofNat 16 (fieldAt b 0x0B0 2) ∧ c.deadTime = fieldAt b 0x0B2 1 ∧
      c.holdDuty = fieldAt b 0x0B3 1 ∧ c.logClasses = BitVec.ofNat 6 (fieldAt b 0x0B4 1) ∧ c.profile = profileOfBytes (b.drop 0x100) ∧
      (∀ n : LaneNo, c.laneCaps[n] = fieldAt b (0x0C0 + 2 * n.val) 2) ∧
      ∀ k : StationNo, c.stations[k].swing = fieldAt b (0x008 + 8 * k.val) 2 ∧ c.stations[k].lift = fieldAt b (0x00A + 8 * k.val) 2 ∧
        (k.val ≤ 3 → c.stations[k].capacity = fieldAt b (0x00C + 8 * k.val) 2)) ∧
    (configLegal c = true ↔ c.version = Config.layoutVersion.toNat ∧
      (∀ k : StationNo, c.stations[k].swing ≤ 51199 ∧ c.stations[k].lift ≤ 23999 ∧
        (k.val ≤ 3 → 1 ≤ c.stations[k].capacity ∧ c.stations[k].capacity ≤ 150)) ∧
      (∀ n : LaneNo, c.laneCaps[n] = 0 ∨ (75 ≤ c.laneCaps[n] ∧ c.laneCaps[n] ≤ 32767)) ∧ profileLegal c.profile = true ∧
      4 ≤ c.deadTime ∧ c.deadTime ≤ 128 ∧ c.holdDuty ≤ 100)) ∧
  (∀ p : Port, windowValid p = true ↔ p.windowBase.toNat % 0x10000 = 0 ∧ p.windowSize.toNat % 0x10000 = 0 ∧
    0x100000 ≤ p.windowSize.toNat ∧ p.windowSize.toNat ≤ 0x10000000000 ∧ p.windowBase.toNat + p.windowSize.toNat ≤ 2 ^ 64) ∧
  ∀ (ce le : BitVec 6) (config : HostRead) (s : State),
    (s.port.part ≠ .stopped → exec (.run ce le config) s =
      .next { s with port := { s.port with causeEnables := ce, logEnables := le, cause := s.port.cause ||| 8 } }) ∧
    (s.port.part = .stopped →
      (windowValid s.port = false ∨ config = .error ∨
        ∃ bs, config = .data bs ∧ configLegal (configOfBytes (fitBytes 4096 bs)) = false) →
      exec (.run ce le config) s =
        .next { s with port := { s.port with causeEnables := ce, logEnables := le, cause := s.port.cause ||| 16 } })

/-- STOP (R178): accepted while RUNNING, not pending, with every slot FREE; the part is STOPPED at once where the arm is IDLE with an
empty queue, else stop pending is set. Otherwise REFUSED. While stop pending is set, the part becomes STOPPED at the test that finds
the arm IDLE with an empty queue. What is accepted shows in the header, and nothing else of the part or of host memory changes. -/
def Obligations.StopCommandJudged : Prop :=
  (∀ (ce le : BitVec 6) (s : State), Settled s →
    ((s.port.part = .running ∧ s.port.stopPending = false ∧ ∀ j, (s.job j).state = .free) →
      ∃ t, exec (.stop ce le) s = .next t ∧ t = { s with port := t.port, host := t.host } ∧ HeaderPut s t ∧
        ((s.transport.arm = .idle ∧ ∀ r, s.queued r = none) → t.port = { s.port with
          causeEnables := ce, logEnables := le, part := .stopped }) ∧
        ((s.transport.arm ≠ .idle ∨ ∃ r, s.queued r ≠ none) → t.port = { s.port with
          causeEnables := ce, logEnables := le, stopPending := true })) ∧
    ((s.port.part ≠ .running ∨ s.port.stopPending = true ∨ ∃ j, (s.job j).state ≠ .free) →
      exec (.stop ce le) s =
        .next { s with port := { s.port with causeEnables := ce, logEnables := le, cause := s.port.cause ||| 8 } })) ∧
  ∀ s : State,
    ((s.port.stopPending = true ∧ s.transport.arm = .idle ∧ ∀ r, s.queued r = none) →
      ∃ t, takeSignal .stopTest s = t ∧ t = { s with port := t.port, host := t.host } ∧ HeaderPut s t ∧
        t.port = { s.port with stopPending := false, part := .stopped }) ∧
    ((s.port.stopPending = false ∨ s.transport.arm ≠ .idle ∨ ∃ r, s.queued r ≠ none) → takeSignal .stopTest s = s)

/-- ENABLES_WRITE, WINDOW_BASE_WRITE and WINDOW_SIZE_WRITE (R176; the enables, R177 in part): the enables take the written values in every
state; the window registers are written in STOPPED alone, and any other write of them sets WINDOW. They read as they stand, a pin reset
sets both to 0 and a soft reset keeps both, and a window of size 0 is not valid. -/
def Obligations.RegisterWritesTakeEffect : Prop :=
  ∀ (ce le : BitVec 6) (v : BitVec 64) (s : State),
    exec (.enablesWrite ce le) s = .next { s with port := { s.port with causeEnables := ce, logEnables := le } } ∧
    (s.port.part = .stopped →
      exec (.windowBaseWrite v) s = .next { s with port := { s.port with windowBase := v } } ∧
      exec (.windowSizeWrite v) s = .next { s with port := { s.port with windowSize := v } }) ∧
    (s.port.part ≠ .stopped →
      exec (.windowBaseWrite v) s = .next { s with port := { s.port with cause := s.port.cause ||| 32 } } ∧
      exec (.windowSizeWrite v) s = .next { s with port := { s.port with cause := s.port.cause ||| 32 } }) ∧
    registerRead s 0x10 8 = s.port.windowBase ∧ registerRead s 0x18 8 = s.port.windowSize ∧
    (∀ sense, ∃ t u, exec (.pinReset sense) s = .next t ∧ t.port.windowBase = 0 ∧ t.port.windowSize = 0 ∧
      exec (.softReset ce le sense) s = .next u ∧ u.port.windowBase = s.port.windowBase ∧
      u.port.windowSize = s.port.windowSize) ∧
    (s.port.windowSize = 0 → windowValid s.port = false)

/-- SHEET_WRITE (R181): with two sheets held REFUSED; an address not a multiple of 64, or an extent of 4,160 bytes not inside the
window past the part-written region, WINDOW; otherwise the sheet is the current one, or the next one. A read of SHEET gives the number
of sheets held and the address of the current one, or 0. -/
def Obligations.SheetWriteHandsOver : Prop :=
  ∀ (a : BitVec 64) (s : State),
    let inside := s.port.windowBase.toNat + 0x18000 ≤ a.toNat ∧
      a.toNat + 4160 ≤ s.port.windowBase.toNat + s.port.windowSize.toNat ∧ a.toNat % 64 = 0
    (∀ c d, s.port.current = some c → s.port.next = some d →
      exec (.sheetWrite a) s = .next { s with port := { s.port with cause := s.port.cause ||| 8 } }) ∧
    ((s.port.current = none ∨ s.port.next = none) → ¬ inside →
      exec (.sheetWrite a) s = .next { s with port := { s.port with cause := s.port.cause ||| 32 } }) ∧
    (inside → s.port.current = none →
      exec (.sheetWrite a) s = .next { s with port := { s.port with current := some ⟨a, none, 0⟩ } }) ∧
    (∀ c, inside → s.port.current = some c → s.port.next = none →
      exec (.sheetWrite a) s = .next { s with port := { s.port with next := some a } }) ∧
    (s.port.current = none → registerRead s 0x20 8 = 0) ∧
    ∀ c, s.port.current = some c → c.address.toNat % 64 = 0 →
      (registerRead s 0x20 8).toNat = c.address.toNat + if s.port.next = none then 1 else 2

/-- CAUSE_READ (R186): the read returns CAUSE and clears it; the interrupt is negated with it. -/
def Obligations.CauseReadClearsCause : Prop :=
  ∀ s : State, ∃ t, exec .causeRead s = .next t ∧
    t = { s with port := { s.port with readData := BitVec.setWidth 64 s.port.cause, cause := 0 } } ∧ interrupt t = false ∧
    ∀ s', interrupt s' = true ↔ s'.port.cause &&& s'.port.causeEnables ≠ 0

/-- The register space (R189, R177, R187, 11.2): a write of another width, of IDENT or CAUSE, or at an offset of no register changes
nothing; a read of another width, or at an offset of no register, returns 0. A read of CONTROL gives the enables, the part state and
stop pending, 0 in its other bits; one of IDENT the four codes, the lane count 16 and the frame count 16; one of CAUSE the causes. A
write of CONTROL is the command of its two lowest bits, with the enables in its fields. -/
def Obligations.OtherAccessesIgnored : Prop :=
  (∀ (offset width : Nat) (o v : BitVec 64) (s : State),
    (writeIgnored o.toNat width = true → exec (.registerWriteIgnored o width v) s = .next s) ∧
    (width ≠ 8 ∨ offset ∉ [0x00, 0x08, 0x10, 0x18, 0x20, 0x28] → registerRead s offset width = 0) ∧
    (writeIgnored offset width = true ↔ width ≠ 8 ∨ offset ∉ [0x08, 0x10, 0x18, 0x20])) ∧
  (∀ s : State,
    let control := registerRead s 0x08 8
    let ident := registerRead s 0x00 8
    control.extractLsb' 8 6 = s.port.causeEnables ∧ control.extractLsb' 16 6 = s.port.logEnables ∧
      (control.extractLsb' 32 2).toNat = s.port.part.code ∧ control.getLsbD 34 = s.port.stopPending ∧
      control.extractLsb' 0 8 = 0 ∧ control.extractLsb' 14 2 = 0 ∧ control.extractLsb' 22 10 = 0 ∧ control.extractLsb' 35 29 = 0 ∧
      ident.extractLsb' 0 16 = Config.vendorCode ∧ ident.extractLsb' 16 16 = Config.partCode ∧
      ident.extractLsb' 32 8 = Config.revision ∧ ident.extractLsb' 40 8 = Config.layoutVersion ∧
      ident.extractLsb' 48 8 = 16 ∧ ident.extractLsb' 56 8 = 16 ∧ registerRead s 0x28 8 = BitVec.setWidth 64 s.port.cause) ∧
  ∀ (v : BitVec 64) (config : HostRead) (sense : Sensors),
    let write := fun o => decodeRegisterWrite o 8 v config sense
    let ce := v.extractLsb' 8 6
    let le := v.extractLsb' 16 6
    (v.toNat % 4 = 0 → write 0x08 = .enablesWrite ce le) ∧ (v.toNat % 4 = 1 → write 0x08 = .run ce le config) ∧
      (v.toNat % 4 = 2 → write 0x08 = .stop ce le) ∧ (v.toNat % 4 = 3 → write 0x08 = .softReset ce le sense) ∧
      write 0x10 = .windowBaseWrite v ∧ write 0x18 = .windowSizeWrite v ∧ write 0x20 = .sheetWrite v ∧
      ∀ (o : BitVec 64) (width : Nat), writeIgnored o.toNat width = true →
        decodeRegisterWrite o width v config sense = .registerWriteIgnored o width v

/-- SHEET_READ (R182): a header or entries read that failed, a header state that is not FILLED, or a count outside 1..32 returns
the sheet with its result; otherwise the sheet is TAKEN with result OK and its entries are kept as read. A write of the sheet's result
or state that returns an error is not retried, and processing goes on: each of the two bytes is written or stands, by a free value
(log 54). -/
def Obligations.SheetReadJudged : Prop :=
  [SheetResult.ok, .badState, .badCount, .badAddress].map SheetResult.code = List.range 4 ∧
  ∀ (header entries : HostRead) (a : BitVec 64) (i : Nat) (s : State), MemoriesWf s → s.port.current = some ⟨a, none, i⟩ →
    let lands := fun (draw x : Nat) (b : Byte) => if Config.sheetWriteLands draw then b else Memory.read s.host x
    (∀ r : SheetResult,
      ((r = .badAddress ∧ header = .error) ∨ (∃ h, header = .data h ∧
        ((r = .badState ∧ fieldAt h 0 1 ≠ 1) ∨ (r = .badCount ∧ fieldAt h 0 1 = 1 ∧ (fieldAt h 1 1 < 1 ∨ 32 < fieldAt h 1 1)) ∨
          (r = .badAddress ∧ fieldAt h 0 1 = 1 ∧ 1 ≤ fieldAt h 1 1 ∧ fieldAt h 1 1 ≤ 32 ∧ entries = .error)))) →
      ∃ t, exec (.sheetRead header entries) s = .next t ∧ t = { s with port := t.port, host := t.host, draws := s.draws + 2 } ∧
        t.port = { s.port with cause := s.port.cause ||| 1, current := s.port.next.map fun d => ⟨d, none, 0⟩, next := none } ∧
        Memory.read t.host (a.toNat + 2) = lands s.draws (a.toNat + 2) (BitVec.ofNat 8 r.code) ∧
        Memory.read t.host a.toNat = lands (s.draws + 1) a.toNat 3 ∧
        ∀ x, x ≠ a.toNat → x ≠ a.toNat + 2 → Memory.read t.host x = Memory.read s.host x) ∧
    (∀ h bs, header = .data h → entries = .data bs → fieldAt h 0 1 = 1 → 1 ≤ fieldAt h 1 1 → fieldAt h 1 1 ≤ 32 →
      ∃ t, exec (.sheetRead header entries) s = .next t ∧ t = { s with port := t.port, host := t.host, draws := s.draws + 2 } ∧
        t.port = { s.port with current := some ⟨a, some (sheetEntries (fieldAt h 1 1) bs), 0⟩ } ∧
        (sheetEntries (fieldAt h 1 1) bs).length = fieldAt h 1 1 ∧
        Memory.read t.host (a.toNat + 2) = lands s.draws (a.toNat + 2) (BitVec.ofNat 8 SheetResult.ok.code) ∧
        Memory.read t.host a.toNat = lands (s.draws + 1) a.toNat 2 ∧
        ∀ x, x ≠ a.toNat → x ≠ a.toNat + 2 → Memory.read t.host x = Memory.read s.host x)

/-- The result of an entry (R182, R183): its result code, by the codes of 11.1, and its 64 bytes of result data are written and the next
entry is due; after the last one the sheet is RETURNED with SHEET in CAUSE, and the next sheet becomes current. A write of these that
returns an error is not retried, and processing goes on: the code, the data and the state are each written or stand, by a free value (log
54). -/
def Obligations.EntryResultWritten : Prop :=
  [ResultCode.ok, .busy, .badSlot, .badState, .badAddress, .badField, .badSubst, .badOverlay, .unknownKind].map ResultCode.code =
    [0, 1, 2, 3, 4, 5, 6, 7, 9] ∧
  ∀ (code : ResultCode) (data : List Byte) (s : State) (a : BitVec 64) (es : List (List Byte)) (i : Nat),
    MemoriesWf s → s.port.current = some ⟨a, some es, i⟩ →
    let lands := fun (draw x : Nat) (b : Byte) => if Config.sheetWriteLands draw then b else Memory.read s.host x
    let entry := a.toNat + 0x40 + 128 * i
    ∃ t, finishEntry code data s = t ∧ t = { s with port := t.port, host := t.host, draws := t.draws } ∧
      Memory.read t.host (entry + 1) = lands s.draws (entry + 1) (BitVec.ofNat 8 code.code) ∧
      (∀ k, k < 64 →
        Memory.read t.host (entry + 0x40 + k) = lands (s.draws + 1) (entry + 0x40 + k) (data.getD k 0)) ∧
      (∀ x, x ≠ entry + 1 → (x < entry + 0x40 ∨ entry + 0x80 ≤ x) → (x ≠ a.toNat ∨ i + 1 < es.length) →
        Memory.read t.host x = Memory.read s.host x) ∧
      (i + 1 < es.length → t.draws = s.draws + 2 ∧ t.port = { s.port with current := some ⟨a, some es, i + 1⟩ }) ∧
      (es.length ≤ i + 1 → t.draws = s.draws + 3 ∧ Memory.read t.host a.toNat = lands (s.draws + 2) a.toNat 3 ∧
        t.port = { s.port with cause := s.port.cause ||| 1, current := s.port.next.map fun d => ⟨d, none, 0⟩, next := none })

/-- What the port and the owners answer before any effect (R183, R3, R10, R11, R22, R24, R25): outside RUNNING every request of a known
kind is BAD_STATE; an entry of a kind not known is UNKNOWN_KIND in every part state; a slot above 7 is BAD_SLOT for every request that
names a job slot in byte 8. Nothing but the result is written. -/
def Obligations.RequestsJudgedFirst : Prop :=
  (∀ (c : Instr) (k : RequestKind) (e : List Byte) (s : State), requestKind c = some k → nextEntry s = some e →
    entryKind e = some k → s.port.part ≠ .running → exec c s = .next (finishEntry .badState [] s)) ∧
  (∀ (e : List Byte) (s : State), nextEntry s = some e → entryKind e = none →
    exec .unknownKind s = .next (finishEntry .unknownKind [] s)) ∧
  ∀ (c : Instr) (k : RequestKind) (e : List Byte) (s : State), Settled s → requestKind c = some k →
    k ∈ [.admitJob, .holdJob, .resumeJob, .abortJob, .clearJob, .exchangeLabel] → AtEntry k e s → 8 ≤ fieldAt e 8 1 →
    exec c s = .next (finishEntry .badSlot [] s)

/-! ### Job requests (chapter 1) -/

/-- ADMIT_JOB with every check passed (R3, R7): the slot holds the job, RUNNING or HELD for HOST, with counters 0; its block is written,
the admission is logged, and JOB_HELD after it where the job starts held, and a RUNNING job brings a dispatch pass. The pass (R18 to R20)
offers each lane in ascending order to the jobs that may issue on it; the first by priority, then by discs in flight and reserved, then by
slot reserves it: reserved + 1, the lowest FREE record RESERVED, the lane in LOAD_WAIT with that record and with FIFO, credits, write
positions, pace, totals, speed request, rates and ceiling cleared (R65), its LOAD queued, and the job DRAINING where its copies are now
covered. That the reservation drops the mark of a disc still to be counted is log 15 (DEDUCED). -/
def Obligations.AdmitInstallsJob : Prop :=
  (∀ (e bs : List Byte) (strip : HostRead) (j : SlotNo) (b : List Byte) (l : List Subst) (glyphs : List Byte) (s : State),
    AtEntry .admitJob e s → reqSlot e = some j → s.port.stopPending = false → (s.job j).state = .free →
    windowCheck s.port (reqAddress e) 320 = true → b = fitBytes 320 bs → extentsInside s.port (jobExtents b) = true →
    jobFieldsLegal b = true → substListOf b = some l → overlayLegal b l = true → readStrip (jobExtents b) strip = some glyphs →
    ∃ u, exec (.admitJob (.data bs) strip) s = .next (finishEntry .ok [] (settle u)) ∧
      u.job j = { Job.reset with
        state := if recStartHeld b then .held else .running, hold := if recStartHeld b then some .host else none
        record := some (jobRecordOf b l)
        raster := if recPrint b then some (fieldAt b 0x20 8, fieldAt b 0x28 2) else none
        nextSerial := if (serialWidth l).isSome then some (fieldAt b 0x1C 4) else none, glyphs := glyphs } ∧
      (∀ k, k ≠ j → u.job k = s.job k) ∧
      u.signals = s.signals ++ (if recStartHeld b then [] else [.dispatch, .stalls]) ∧
      let v := logEntry .jobAdmitted j.val [] (report (0x2000 + 256 * j.val) (jobBlock (u.job j)) (s.setJob j (u.job j)))
      u = { (if recStartHeld b then logEntry .jobHeld j.val (byte HoldReason.host.code) v else v) with signals := u.signals }) ∧
  (∀ (b : List Byte) (l : List Subst), jobFieldsLegal b = true →
    let prints := (b.getD 0x1A 0).getLsbD 0 = true
    jobRecordOf b l = {
      imageBase := fieldAt b 0x00 8, imageSectors := fieldAt b 0x08 4, mediaClass := fieldAt b 0x0E 1, copies := fieldAt b 0x0C 2
      spindle := if fieldAt b 0x0F 1 = 0 then .a else .b, laneSet := BitVec.ofNat 16 (fieldAt b 0x10 2)
      speedCap := fieldAt b 0x12 2, priority := fieldAt b 0x14 1
      verifyMode := if fieldAt b 0x15 1 = 0 then .off else if fieldAt b 0x15 1 = 1 then .readability else .compare
      tolerate := if (b.getD 0x16 0).getLsbD 2 then 4 else 0, gapLimit := fieldAt b 0x17 1, maxGaps := fieldAt b 0x18 2
      print := decide prints, serialStart := fieldAt b 0x1C 4, substs := l
      overlay := if prints ∧ (b.getD 0x1A 0).getLsbD 2 = true then
        some ⟨fieldAt b 0x2A 1, fieldAt b 0x2B 1, fieldAt b 0x2C 2, fieldAt b 0x2E 2⟩ else none } ∧
    recStartHeld b = (b.getD 0x1A 0).getLsbD 1 ∧ (recPrint b = true ↔ prints) ∧
    (∀ w, serialWidth l = some w → ∃ e, e ∈ l ∧ e.kind = .serial w) ∧
    (serialWidth l = none → ∀ e w, e ∈ l → e.kind ≠ .serial w)) ∧
  (∀ (j : SlotNo) (n : LaneNo) (s : State), mayIssue s j n = true ↔
    ∃ r, (s.job j).record = some r ∧ (s.job j).state = .running ∧
      (s.job j).good + (s.job j).inFlight + (s.job j).reserved < r.copies ∧
      (∀ w v, serialWidth r.substs = some w → (s.job j).nextSerial = some v → v + (s.job j).reserved ≤ serialLimit w) ∧
      r.laneSet.getLsbD n.val = true ∧ (s.lane n).state = .idle ∧ (s.lane n).diag = none ∧
      (s.entry (spindleStation r.spindle)).empty = false ∧ (s.entry stationOutput).full = false ∧
      (s.entry stationReject).full = false ∧ ∃ i, s.disc i = none) ∧
  (∀ (a b : SlotNo) (ra rb : JobRecord) (s : State), (s.job a).record = some ra → (s.job b).record = some rb →
    let taken := fun j => (s.job j).inFlight + (s.job j).reserved
    (ranksBefore s a b = true ↔
      rb.priority < ra.priority ∨ (ra.priority = rb.priority ∧ (taken a < taken b ∨ (taken a = taken b ∧ a ≤ b))))) ∧
  (∀ s : State, s.port.part ≠ .stopped → takeSignal .dispatch s = allLanes.foldl offerLane s) ∧
  (∀ (n : LaneNo) (s : State), (∀ j, mayIssue s j n = false) → offerLane s n = s) ∧
  ∀ (n : LaneNo) (j : SlotNo) (r : JobRecord) (i : DiscNo) (s : State), mayIssue s j n = true →
    (∀ k, mayIssue s k n = true → ranksBefore s j k = true) → (s.job j).record = some r → s.disc i = none →
    (∀ k, k < i → s.disc k ≠ none) →
    ∃ u, offerLane s n = u ∧ u.disc i = some (freshRecord j n) ∧ (∀ k, k ≠ i → u.disc k = s.disc k) ∧
      (u.job j).reserved = (s.job j).reserved + 1 ∧
      (u.job j).state = (if r.copies ≤ (s.job j).good + (s.job j).inFlight + (s.job j).reserved + 1 then .draining else .running) ∧
      (∀ k, k ≠ j → u.job k = s.job k) ∧
      u.lane n = { s.lane n with
        state := .loadWait, trail := lastEight ((s.lane n).trail ++ [(.loadWait, s.port.timeBase)]), disc := some ⟨i, j⟩
        refuse := none, inTray := false, orphan := false, uncounted := none
        fifo := [], credits := 0, nextCopy := 0, nextSend := 0, pace := ⟨0, 0, 0, 0⟩, totals := ⟨0, 0, 0⟩
        speedReq := none, offered := [], ceiling := none, rate := none } ∧
      (∀ m, m ≠ n → u.lane m = s.lane m) ∧
      u.queued (requesterOf n) =
        some ⟨.load, requesterOf n, spindleStation r.spindle, trayOf n, s.transport.positions, 0⟩ ∧
      (∀ q, q ≠ requesterOf n → u.queued q = s.queued q)

/-- ADMIT_JOB refused (R3, R178): the first check that fails, in the order of R3, gives the result code, and nothing else changes. The
extents of check 4 (R3), the window check each of them passes (2.6: beyond the part-written region and within the window, an extent of no
bytes by its address), the ranges of check 5 (R4), the list of check 6 (R5) and the overlay of check 7 (R6) are read from the record's
fields at the offsets of 11.5. -/
def Obligations.AdmitRefusesInOrder : Prop :=
  (∀ (e : List Byte) (record strip : HostRead) (s : State), Settled s → AtEntry .admitJob e s →
    let answers := fun code => exec (.admitJob record strip) s = .next (finishEntry code [] s)
    (reqSlot e = none → answers .badSlot) ∧
    ∀ j, reqSlot e = some j →
      (s.port.stopPending = true → answers .badState) ∧
      (s.port.stopPending = false → ((s.job j).state ≠ .free → answers .busy) ∧
        ((s.job j).state = .free →
          (windowCheck s.port (reqAddress e) 320 = false ∨ record = .error → answers .badAddress) ∧
          ∀ bs, windowCheck s.port (reqAddress e) 320 = true → record = .data bs →
            let b := fitBytes 320 bs
            (extentsInside s.port (jobExtents b) = false → answers .badAddress) ∧
            (extentsInside s.port (jobExtents b) = true → (jobFieldsLegal b = false → answers .badField) ∧
              (jobFieldsLegal b = true → (substListOf b = none → answers .badSubst) ∧
                ∀ l, substListOf b = some l → (overlayLegal b l = false → answers .badOverlay) ∧
                  (overlayLegal b l = true → readStrip (jobExtents b) strip = none → answers .badAddress)))))) ∧
  (∀ (bs : List Byte) (off n : Nat), fieldAt bs off 0 = 0 ∧
    fieldAt bs off (n + 1) = (bs.getD off 0).toNat + 256 * fieldAt bs (off + 1) n) ∧
  (∀ (p : Port) (a n : Nat), windowCheck p a n = true ↔ p.windowBase.toNat + 0x18000 ≤ a ∧
    (if n = 0 then a < p.windowBase.toNat + p.windowSize.toNat else a + n ≤ p.windowBase.toNat + p.windowSize.toNat)) ∧
  (∀ (p : Port) (b : List Byte),
    let prints := (b.getD 0x1A 0).getLsbD 0 = true
    let overlaid := prints ∧ (b.getD 0x1A 0).getLsbD 2 = true
    (extentsInside p (jobExtents b) = true ↔ windowCheck p (fieldAt b 0x00 8) (fieldAt b 0x08 4 * 2048) = true ∧
      (prints → windowCheck p (fieldAt b 0x20 8) (fieldAt b 0x28 2 * 168) = true) ∧
      (overlaid → windowCheck p (fieldAt b 0x30 8) (10 * fieldAt b 0x2B 1 * ((fieldAt b 0x2A 1 + 7) / 8)) = true)) ∧
    (jobFieldsLegal b = true ↔ fieldAt b 0x00 8 % 4096 = 0 ∧ 1 ≤ fieldAt b 0x08 4 ∧ fieldAt b 0x08 4 ≤ 67108864 ∧
      1 ≤ fieldAt b 0x0E 1 ∧ fieldAt b 0x0E 1 ≤ 3 ∧ 1 ≤ fieldAt b 0x0C 2 ∧ fieldAt b 0x0F 1 ≤ 1 ∧ fieldAt b 0x10 2 ≠ 0 ∧
      (fieldAt b 0x12 2 = 0 ∨ (75 ≤ fieldAt b 0x12 2 ∧ fieldAt b 0x12 2 ≤ 32767)) ∧ fieldAt b 0x14 1 ≤ 3 ∧
      fieldAt b 0x15 1 ≤ 2 ∧ fieldAt b 0x17 1 ≤ 15 ∧ (prints → 1 ≤ fieldAt b 0x28 2 ∧ fieldAt b 0x28 2 ≤ 1344) ∧
      (overlaid → 8 ≤ fieldAt b 0x2A 1 ∧ fieldAt b 0x2A 1 ≤ 64 ∧ 8 ≤ fieldAt b 0x2B 1 ∧ fieldAt b 0x2B 1 ≤ 128 ∧
        fieldAt b 0x2C 2 ≤ 1343 ∧ fieldAt b 0x2E 2 ≤ 1343)) ∧
    ∀ l : List Subst, (∀ e f v w, e ∈ l → f ∈ l → e.kind = .serial v → f.kind = .serial w → v = w) →
      (overlayLegal b l = true ↔ (overlaid → ∃ e w, e ∈ l ∧ e.kind = .serial w ∧
        fieldAt b 0x2E 2 + fieldAt b 0x2B 1 ≤ fieldAt b 0x28 2 ∧ fieldAt b 0x2C 2 + w * fieldAt b 0x2A 1 ≤ 1344))) ∧
  ∀ (b : List Byte) (l : List Subst), substListOf b = some l ↔ fieldAt b 0x1B 1 ≤ 8 ∧ l.length = fieldAt b 0x1B 1 ∧
    (∀ i e, l[i]? = some e →
      let a := 0x40 + 32 * i
      e.sector = fieldAt b a 4 ∧ e.offset = fieldAt b (a + 4) 2 ∧ e.length = fieldAt b (a + 6) 1 ∧
      e.sector < fieldAt b 0x08 4 ∧ e.offset ≤ 2047 ∧ 1 ≤ e.length ∧ e.length ≤ 16 ∧ e.offset + e.length ≤ 2048 ∧
      ((fieldAt b (a + 7) 1 = 0 ∧ e.kind = .fixed ((b.drop (a + 16)).take e.length)) ∨
        (fieldAt b (a + 7) 1 = 1 ∧ e.kind = .serial (fieldAt b (a + 8) 1) ∧ e.length = fieldAt b (a + 8) 1 ∧ e.length ≤ 10))) ∧
    (∀ i e f, l[i]? = some e → l[i + 1]? = some f →
      e.sector < f.sector ∨ (e.sector = f.sector ∧ e.offset + e.length ≤ f.offset)) ∧
    ∀ e f v w, e ∈ l → f ∈ l → e.kind = .serial v → f.kind = .serial w → v = w ∧ fieldAt b 0x1C 4 ≤ 10 ^ v - 1

/-- HOLD_JOB and RESUME_JOB (R10, R11): a RUNNING or DRAINING job is held for HOST, with its queued loads withdrawn; a HELD one whose
serial is not spent goes on, RUNNING below its copies and DRAINING otherwise, its FAILED frames freed and its run of bad probes 0. The
serial is spent where the next one exceeds 10^W - 1 for the width W of the list's SERIAL entries; a frame is freed at the resume where it
holds a FAILED page of the job and is not released. In any other state the answer is BAD_STATE, and for a slot above 7 BAD_SLOT. -/
def Obligations.HoldAndResumeJob : Prop :=
  (∀ (e : List Byte) (s : State), Settled s → reqSlot e = none →
    (AtEntry .holdJob e s → exec .holdJob s = .next (finishEntry .badSlot [] s)) ∧
    (AtEntry .resumeJob e s → exec .resumeJob s = .next (finishEntry .badSlot [] s))) ∧
  (∀ x : Job, serialSpent x = true ↔
    ∃ r w n, x.record = some r ∧ serialWidth r.substs = some w ∧ x.nextSerial = some n ∧ 10 ^ w - 1 < n) ∧
  (∀ l : List Subst, (serialWidth l = none ↔ ∀ e w, e ∈ l → e.kind ≠ .serial w) ∧
    ∀ w, serialWidth l = some w → ∃ e, e ∈ l ∧ e.kind = .serial w) ∧
  (∀ (j : SlotNo) (f : Frame),
    let failed := f.slot = j ∧ f.released = false ∧ f.state = .failed
    (failed → f.atResume j = { f with state := .free, slot := 0, page := 0, pinCount := 0, attempts := 0, released := false }) ∧
    (¬ failed → f.atResume j = f)) ∧
  ∀ (e : List Byte) (j : SlotNo) (s : State), Settled s → reqSlot e = some j →
    (AtEntry .holdJob e s →
      ((s.job j).state = .running ∨ (s.job j).state = .draining →
        exec .holdJob s = .next (finishEntry .ok [] (settle (withdrawLoads j (logEntry .jobHeld j.val (byte HoldReason.host.code)
          (changeJob j (fun x => { x with state := .held, stall := StallFlags.clear, hold := some .host }) s)))))) ∧
      ((s.job j).state ≠ .running ∧ (s.job j).state ≠ .draining →
        exec .holdJob s = .next (finishEntry .badState [] s))) ∧
    (AtEntry .resumeJob e s →
      let below := (s.job j).sum < (s.job j).copies
      ((s.job j).state = .held ∧ serialSpent (s.job j) = false →
        ∃ t u, t = logEntry .jobResumed j.val [] (changeJob j (fun x => { x with
            state := if below then .running else .draining, hold := none, probeRun := 0 }) (freeFailed j s)) ∧
          u = (if below then (t.emit .dispatch).emit .stalls else t) ∧
          exec .resumeJob s = .next (finishEntry .ok [] (settle u)) ∧
          u.job j = { s.job j with state := if below then .running else .draining, hold := none, probeRun := 0 } ∧
          (∀ k, k ≠ j → u.job k = s.job k) ∧ (∀ f, u.frame f = (s.frame f).atResume j) ∧
          u.signals = (if below then [.dispatch, .stalls] else []) ∧
          u = { s with port := u.port, jobs := u.jobs, frames := u.frames, host := u.host, signals := u.signals }) ∧
      ((s.job j).state ≠ .held ∨ serialSpent (s.job j) = true →
        exec .resumeJob s = .next (finishEntry .badState [] s)))

/-- ABORT_JOB (R8, R22, R23): a RUNNING, DRAINING or HELD job is ABORTING; its queued loads are withdrawn, each cancelling its
reservation; then the PENDING disc that each lane holds for it is decided REJECTED with ABORTED, on the arm or in its tray, with the
grant a unit it frees makes; and its counts are tested. The test makes a RUNNING job whose copies are covered DRAINING, a DRAINING one
below them RUNNING with a dispatch pass, a DRAINING or HELD one with every copy good DONE, and an ABORTING one with nothing in flight or
reserved ABORTED, its frames released; any other stands, and its stall flags follow. Any other state: BAD_STATE. That the withdrawals
come first, and the lanes in ascending order, is the model's order (log 8, DESIGN CHOICE). -/
def Obligations.AbortJobTaken : Prop :=
  (∀ (e : List Byte) (s : State), Settled s → AtEntry .abortJob e s →
    (reqSlot e = none → exec .abortJob s = .next (finishEntry .badSlot [] s)) ∧
    ∀ j, reqSlot e = some j →
      ((s.job j).state = .running ∨ (s.job j).state = .draining ∨ (s.job j).state = .held →
        exec .abortJob s = .next (finishEntry .ok [] (settle (testCounts j (allLanes.foldl (abortDisc j) (allLanes.foldl
          (fun t n => if ((t.lane n).disc.map (·.slot)) = some j then withdrawLoad n t else t)
          (changeJob j (fun x => { x with state := .aborting, stall := StallFlags.clear, hold := none }) s))))))) ∧
      ((s.job j).state ≠ .running ∧ (s.job j).state ≠ .draining ∧ (s.job j).state ≠ .held →
        exec .abortJob s = .next (finishEntry .badState [] s))) ∧
  (∀ (n : LaneNo) (s : State),
    (s.queued (requesterOf n) = none ∨ (∃ t, s.queued (requesterOf n) = some t ∧ t.kind ≠ .load) → withdrawLoad n s = s) ∧
    ∀ d t, s.queued (requesterOf n) = some t → t.kind = .load → (s.lane n).disc = some d →
      ∃ v, withdrawLoad n s = testCounts d.slot (endReservation n v) ∧ v.queued (requesterOf n) = none ∧
        (∀ r, r ≠ requesterOf n → v.queued r = s.queued r) ∧ v.disc d.index = none ∧ (∀ i, i ≠ d.index → v.disc i = s.disc i) ∧
        v.job d.slot = { s.job d.slot with reserved := (s.job d.slot).reserved - 1 } ∧ (∀ k, k ≠ d.slot → v.job k = s.job k) ∧
        v.signals = s.signals ++ [.stopTest, .dispatch, .stalls] ∧
        v = { s with
          port := v.port, jobs := v.jobs, roster := v.roster, transport := v.transport, host := v.host, signals := v.signals }) ∧
  (∀ (j : SlotNo) (n : LaneNo) (s : State),
    ((s.lane n).disc = none ∨ (∃ d, (s.lane n).disc = some d ∧
        (d.slot ≠ j ∨ s.disc d.index = none ∨ ∃ x, s.disc d.index = some x ∧ x.outcome ≠ .pending)) → abortDisc j s n = s) ∧
    (∀ d x, (s.lane n).disc = some d → d.slot = j → s.disc d.index = some x → x.outcome = .pending →
      abortDisc j s n = laneTurn (laneReject n .aborted 0 id s) ∧
      ((s.lane n).inTray = false → (s.lane n).state ∈ [.loadWait, .trayLoad] → x.slot = BitVec.ofNat 8 j.val → x.location = .arm →
        (s.lane n).verify.stage = .off → (s.lane n).verify.unit = none → (s.lane n).pins = [] →
        ∃ u, laneReject n .aborted 0 id s = u ∧
          u.disc d.index = some { x with
            outcome := .rejected, reason := some .aborted
            totals := if x.writeStart.isSome ∧ x.writeEnd = none then some (laneTotals (s.lane n)) else x.totals } ∧
          (∀ i, i ≠ d.index → u.disc i = s.disc i) ∧ (u.job j).rejected = satInc max32 (s.job j).rejected ∧
          (u.job j).inFlight = (s.job j).inFlight - 1 ∧ (∀ k, k ≠ j → u.job k = s.job k) ∧
          (u.lane n).state = (s.lane n).state ∧ (u.lane n).disc = some d ∧ (u.lane n).counters = (s.lane n).counters ∧
          (∀ m, m ≠ n → u.lane m = s.lane m) ∧ u.links = s.links ∧ u.transport = s.transport ∧ .armRejected ∈ u.signals)) ∧
    (.grant ∉ s.signals → laneTurn s = s)) ∧
  ∀ (j : SlotNo) (r : JobRecord) (s : State), (s.job j).record = some r →
    let x := s.job j
    let covered := r.copies ≤ x.good + x.inFlight + x.reserved
    let tests := fun (v : Job) (signals : List Signal) => ∃ u, testCounts j s = u ∧ u.job j = v ∧ (∀ k, k ≠ j → u.job k = s.job k) ∧
      u.signals = s.signals ++ signals ∧ u = { s with port := u.port, jobs := u.jobs, host := u.host, signals := u.signals }
    let done := logEntry .jobDone j.val []
      (changeJob j (fun x => { x with state := .done, hold := none, stall := StallFlags.clear }) s)
    (x.state = .running → covered → tests { x with state := .draining, stall := StallFlags.clear } []) ∧
    (x.state = .draining → x.good < r.copies → ¬ covered → tests { x with state := .running } [.dispatch, .stalls]) ∧
    (x.state = .draining ∨ x.state = .held → r.copies ≤ x.good → testCounts j s = done) ∧
    (x.state = .aborting → x.inFlight = 0 → x.reserved = 0 → testCounts j s = releaseFrames j (logEntry .jobAborted j.val []
      (changeJob j (fun x => { x with state := .aborted, stall := StallFlags.clear }) s))) ∧
    ((x.state = .running ∧ ¬ covered) ∨ (x.state = .draining ∧ x.good < r.copies ∧ covered) ∨
        (x.state = .held ∧ x.good < r.copies) ∨ (x.state = .aborting ∧ (x.inFlight ≠ 0 ∨ x.reserved ≠ 0)) ∨
        x.state ∈ [.free, .done, .aborted] → testCounts j s = { s with signals := s.signals ++ [.stalls] })

/-- CLEAR_JOB (R24; R59 in part): a DONE or ABORTED slot that no diagnosis names becomes FREE with its reset values and its frames are
released, and its block is written; a diagnosis makes it BUSY, any other state BAD_STATE, a slot above 7 BAD_SLOT. Of the job's frames
a FAILED one and a RESIDENT one without pins are FREE at once; one that fills or is pinned is marked released, and no page of the job's any
more. -/
def Obligations.ClearJobFreesSlot : Prop :=
  (∀ (j : SlotNo) (f : Frame),
    let tagged := f.slot = j ∧ f.released = false
    (¬ tagged ∨ f.state = .free → f.atRelease j = f) ∧
    (tagged → f.state = .failed ∨ (f.state = .resident ∧ f.pinCount = 0) →
      f.atRelease j = { f with state := .free, slot := 0, page := 0, pinCount := 0, attempts := 0, released := false }) ∧
    (tagged → f.state = .filling ∨ (f.state = .resident ∧ f.pinCount ≠ 0) → f.atRelease j = { f with released := true })) ∧
  ∀ (e : List Byte) (s : State), Settled s → AtEntry .clearJob e s →
    (reqSlot e = none → exec .clearJob s = .next (finishEntry .badSlot [] s)) ∧
    ∀ j, reqSlot e = some j →
      ((s.job j).state ≠ .done ∧ (s.job j).state ≠ .aborted → exec .clearJob s = .next (finishEntry .badState [] s)) ∧
      ((s.job j).state = .done ∨ (s.job j).state = .aborted →
        ((∃ n g, (s.lane n).diag = some g ∧ g.slot = j) → exec .clearJob s = .next (finishEntry .busy [] s)) ∧
        ((∀ n g, (s.lane n).diag = some g → g.slot ≠ j) →
          ∃ u, u = writeJob j ((releaseFrames j s).setJob j Job.reset) ∧ exec .clearJob s = .next (finishEntry .ok [] u) ∧
            u.job j = Job.reset ∧ (∀ k, k ≠ j → u.job k = s.job k) ∧ (∀ f, u.frame f = (s.frame f).atRelease j) ∧
            u = { s with port := u.port, jobs := u.jobs, frames := u.frames, host := u.host }))

/-- EXCHANGE_LABEL (R25, R164): the checks in order; then the active raster is the new one and the result data is the old address and
whether it is in use. BAD_ADDRESS is the window check of 168 bytes a line (2.6), BAD_OVERLAY an overlay that the raster's lines do not
hold. The new raster is not retiring and an old one in use is; an address that is both stays retiring (log 40,
DEDUCED). But for these and the block nothing changes. Of the use table (R164) no entry comes or goes, and only these marks change. -/
def Obligations.ExchangeLabelTaken : Prop :=
  (∀ (old new : Nat) (uses : List RasterUse),
    (inUse old uses = true ↔ ∃ o, o ∈ uses ∧ o.address = old ∧ 0 < o.count) ∧
    exchangeUses old new uses = uses.map fun o => { o with
      retiring := if o.address = old ∧ inUse old uses = true then true else if o.address = new then false else o.retiring }) ∧
  ∀ (e : List Byte) (j : SlotNo) (s : State), Settled s → AtEntry .exchangeLabel e s → reqSlot e = some j →
    let answers := fun code => exec .exchangeLabel s = .next (finishEntry code [] s)
    let inside := s.port.windowBase.toNat + 0x18000 ≤ reqAddress e ∧
      (if reqLines e = 0 then reqAddress e < s.port.windowBase.toNat + s.port.windowSize.toNat
        else reqAddress e + reqLines e * 168 ≤ s.port.windowBase.toNat + s.port.windowSize.toNat)
    ((s.job j).record = none → answers .badState) ∧
    ∀ r, (s.job j).record = some r →
      let fits := ∀ o, r.overlay = some o → o.y + o.glyphHeight ≤ reqLines e
      ((s.job j).state = .free ∨ r.print = false → answers .badState) ∧
      ((s.job j).state ≠ .free → r.print = true →
        (¬ inside → answers .badAddress) ∧
        (inside →
          (reqLines e < 1 ∨ 1344 < reqLines e → answers .badField) ∧
          (1 ≤ reqLines e → reqLines e ≤ 1344 →
            (¬ fits → answers .badOverlay) ∧
            ∀ old, fits → old = orZero ((s.job j).raster.map (·.1)) →
              ∃ u, exec .exchangeLabel s =
                  .next (finishEntry .ok (dword old ++ byte (if inUse old s.printer.uses then 1 else 0)) u) ∧
                u.job j = { s.job j with raster := some (reqAddress e, reqLines e) } ∧ (∀ k, k ≠ j → u.job k = s.job k) ∧
                u.printer = { s.printer with uses := exchangeUses old (reqAddress e) s.printer.uses } ∧
                u = { s with port := u.port, jobs := u.jobs, printer := u.printer, host := u.host })))

/-- RELEASE_DISCS (R38): a count outside 1..24 is BAD_FIELD; otherwise the entries are taken in order, a GOOD or REJECTED disc at the
output or the reject spindle being freed with its record written. Every other entry sets its bit of the skipped mask and leaves every
record as it is: an index above 255 or FREE, a record with another outcome, or one whose disc is at no such spindle. The result data is
the number released and the mask. -/
def Obligations.ReleaseDiscsTaken : Prop :=
  ∀ (e : List Byte) (s : State), Settled s → AtEntry .releaseDiscs e s →
    (reqCount e < 1 ∨ 24 < reqCount e → exec .releaseDiscs s = .next (finishEntry .badField [] s)) ∧
    (1 ≤ reqCount e → reqCount e ≤ 24 →
      ∃ x, (List.range (reqCount e)).foldl (fun x i => releaseEntry e i x) ⟨0, 0, s⟩ = x ∧
        exec .releaseDiscs s = .next (finishEntry .ok (byte x.count ++ [0, 0, 0] ++ word x.skipped) x.state)) ∧
    ∀ (i : Nat) (x : Release),
      (∀ (d : DiscNo) r, reqIndex e i = d.val → x.state.disc d = some r →
        (r.outcome = .good ∨ r.outcome = .rejected) → (r.location = .output ∨ r.location = .reject) →
        releaseEntry e i x = { x with count := x.count + 1, state := settle (freeRecord d x.state) }) ∧
      ((256 ≤ reqIndex e i ∨ ∃ d : DiscNo, reqIndex e i = d.val ∧
          (x.state.disc d = none ∨ ∃ r, x.state.disc d = some r ∧ (r.outcome ∉ [.good, .rejected] ∨ r.location ∉ [.output, .reject]))) →
        releaseEntry e i x = { x with skipped := x.skipped + 2 ^ i })

/-! ### Unit requests (chapters 4, 7, 8) -/

/-- SET_LANE (R84, R85): BAD_FIELD for a lane above 15 or an illegal cap; otherwise the cap is set and the block written, and the enable
flag takes effect. Enabled, an OFFLINE lane enters IDLE, or FAULTED with its link DOWN (R94); a FAULTED one sends TRAY QUERY, where its
link is UP and no tray command is unanswered (log 55, DESIGN CHOICE); any other is enabled in place. Disabled, an IDLE lane is OFFLINE; in
LOAD_WAIT a queued LOAD is withdrawn, its record freed and the lane OFFLINE, and a begun one leaves LANE_DISABLED, but not over
DRIVE_FAULT (log 62, DESIGN CHOICE), with a disc picked already decided REJECTED (log 24, DEDUCED); a PENDING disc in its tray states is
decided REJECTED; any other lane is disabled in place. -/
def Obligations.SetLaneTaken : Prop :=
  ∀ (e : List Byte) (s : State), Settled s → AtEntry .setLane e s →
    ((16 ≤ fieldAt e 8 1 ∨ capLegal (reqCap e) = false) → exec .setLane s = .next (finishEntry .badField [] s)) ∧
    ∀ n, reqLane e = some n → capLegal (reqCap e) = true →
      ∃ u, exec .setLane s = .next (finishEntry .ok [] (settle
          (report (0x3000 + 128 * n.val) (laneBlock (u.lane n) (u.link n).up) u))) ∧
        (reqEnable e = true →
          let on := { s.lane n with
            cap := reqCap e, enabled := true, faultRun := 0
            refuse := if (s.lane n).refuse = some .laneDisabled then none else (s.lane n).refuse }
          ((s.lane n).state ≠ .offline → (s.lane n).state ≠ .faulted → u = s.setLane n on) ∧
          ((s.lane n).state = .offline → (s.lane n).verify.unit = none →
            (u.lane n).state = (if (s.link n).up then .idle else .faulted) ∧ (u.lane n).enabled = true ∧
            (u.lane n).cap = reqCap e ∧ (u.lane n).faultRun = 0 ∧ (u.lane n).disc = none ∧ (u.lane n).refuse = none ∧
            (∀ m, m ≠ n → u.lane m = s.lane m) ∧ ((s.link n).up = true → .dispatch ∈ u.signals)) ∧
          ((s.lane n).state = .faulted →
            ((s.link n).up = true → (s.lane n).waits.tray = none →
              u = (s.setLink n { s.link n with outbound := (s.link n).outbound ++ [.tray .query] }).setLane n
                { on with waits := { on.waits with tray := some ⟨.query, .recovery, s.port.timeBase⟩ }, restPending := false }) ∧
            ((s.link n).up = false ∨ (s.lane n).waits.tray ≠ none → u = s.setLane n on))) ∧
        (reqEnable e = false → (s.lane n).enabled = true →
          let off := { s.lane n with cap := reqCap e, enabled := false }
          let marked := { off with refuse :=
            if (s.lane n).refuse = some .driveFault then some .driveFault else some .laneDisabled }
          ((s.lane n).state = .idle →
            u.lane n = { off with state := .offline, trail := lastEight ((s.lane n).trail ++ [(.offline, s.now)]) } ∧
            (∀ m, m ≠ n → u.lane m = s.lane m)) ∧
          ((s.lane n).state = .loadWait →
            (∀ d t, (s.lane n).disc = some d → s.queued (requesterOf n) = some t → t.kind = .load →
              (s.lane n).refuse ≠ some .driveFault → (s.lane n).verify.unit = none →
              (u.lane n).state = .offline ∧ (u.lane n).enabled = false ∧ (u.lane n).cap = reqCap e ∧ (u.lane n).disc = none ∧
              u.disc d.index = none ∧ (u.job d.slot).reserved = (s.job d.slot).reserved - 1 ∧ u.queued (requesterOf n) = none ∧
              (∀ m, m ≠ n → u.lane m = s.lane m)) ∧
            (s.queued (requesterOf n) = none → discPending s n = false →
              u = s.setLane n marked) ∧
            (s.queued (requesterOf n) = none → discPending s n = true →
              u = laneReject n .laneDisabled 0 id (s.setLane n marked))) ∧
          ((s.lane n).state ∈ [.trayLoad, .probing, .negotiating, .writing, .closing, .verifying] →
            (discPending s n = true → u = laneReject n .laneDisabled 0 id (s.setLane n off)) ∧
            (discPending s n = false → u = s.setLane n off)) ∧
          ((s.lane n).state ∈ [.unknown, .offline, .unloadWait, .trayUnload, .faulted] → u = s.setLane n off)) ∧
        (reqEnable e = false → (s.lane n).enabled = false → u = s.setLane n { s.lane n with cap := reqCap e })

/-- TAKE_COUNTS (R82): the result data is the six counters and their saturated flags; counters and flags are then 0 and the block is
written. BAD_FIELD for a lane above 15. -/
def Obligations.TakeCountsReturnsCounters : Prop :=
  ∀ (e : List Byte) (s : State), Settled s → AtEntry .takeCounts e s →
    (16 ≤ fieldAt e 8 1 → exec .takeCounts s = .next (finishEntry .badField [] s)) ∧
    ∀ n, reqLane e = some n →
      ∃ u, exec .takeCounts s =
          .next (finishEntry .ok (counterBytes (s.lane n).counters ++ byte (saturatedByte (s.lane n).counters)) u) ∧
        u.lane n = { s.lane n with counters := ⟨⟨0, false⟩, ⟨0, false⟩, ⟨0, false⟩, ⟨0, false⟩, ⟨0, false⟩, ⟨0, false⟩⟩ } ∧
        (∀ m, m ≠ n → u.lane m = s.lane m) ∧
        u = report (0x3000 + 128 * n.val) (laneBlock (u.lane n) (s.link n).up) (s.setLane n (u.lane n))

/-- DIAGNOSE_LANE (R89; R43, R47 to R49, R90): the checks in order; then the diagnosis begins on its first page with the job's next
serial, held at the limit 10^W - 1 of its SERIAL entries' width, or without one where it has none. A page that is RESIDENT is queued for a
compare unit in blocks of 32 sectors, the next block after each; the last block gives the page's pin up and takes the next page's, and the
last page ends in PASS or MISMATCH by the count; a page that waits is waited for, and a FAILED one ends it with REFERENCE and is a hold
cause of its job. A diagnosis that ends gives its result, its pins up, its block and DIAG_DONE, and from IDLE a dispatch pass. A pin taken
on a page that a frame holds, and a pin given up, keep every frame's pin count equal to the number of pins that stand on it; a pin on a
page that no frame holds joins the page's request, or enters a new one at the next arrival position, which is started at once where it can
be. -/
def Obligations.DiagnoseLaneTaken : Prop :=
  (∀ (n : LaneNo) (kind : PinKind) (j : SlotNo) (page : Nat) (f : FrameNo) (s : State), PinsStand s → lookup s j page = some f →
    PinsStand (pinPage n kind j page s) ∧
    ((s.frame f).state = .resident ∨ (s.frame f).state = .filling →
      ((pinPage n kind j page s).lane n).pins = (s.lane n).pins ++ [⟨kind, j, page, some f⟩] ∧
      ((pinPage n kind j page s).frame f).pinCount = (s.frame f).pinCount + 1)) ∧
  (∀ (j : SlotNo) (page : Nat) (s : State),
    let found := fun (f : FrameNo) => (s.frame f).state ≠ .free ∧ (s.frame f).released = false ∧ (s.frame f).slot = j ∧ (s.frame f).page = page
    (∀ f, lookup s j page = some f → found f ∧ ∀ g, g < f → ¬ found g) ∧ (lookup s j page = none ↔ ∀ f, ¬ found f) ∧
    (pinFinds s j page = .ready ↔ ∃ f, lookup s j page = some f ∧ (s.frame f).state = .resident) ∧
    (pinFinds s j page = .failed ↔ ∃ f, lookup s j page = some f ∧ (s.frame f).state = .failed)) ∧
  (∀ x : Job,
    (∀ r w n, x.record = some r → serialWidth r.substs = some w → x.nextSerial = some n →
      diagSerial x = some (min n (10 ^ w - 1))) ∧
    ((∀ r, x.record = some r → serialWidth r.substs = none) → diagSerial x = none)) ∧
  (∀ (n : LaneNo) (kind : PinKind) (j : SlotNo) (page : Nat) (s : State), lookup s j page = none →
    let pinned : Lane := { s.lane n with pins := (s.lane n).pins ++ [⟨kind, j, page, none⟩] }
    ((∃ q, q ∈ s.fetch.queue ∧ q.slot = j ∧ q.page = page) →
      pinPage n kind j page s = ({ s with fetch := { s.fetch with queue := s.fetch.queue.map fun q =>
        if q.slot = j ∧ q.page = page then { q with lanes := q.lanes ++ [n] } else q } } : State).setLane n pinned) ∧
    ((∀ q, q ∈ s.fetch.queue → q.slot = j → q.page ≠ page) →
      pinPage n kind j page s = feStart (({ s with fetch := { s.fetch with
        queue := s.fetch.queue ++ [⟨j, page, [n], s.fetch.arrivals⟩]
        arrivals := satInc max64 s.fetch.arrivals } } : State).setLane n pinned))) ∧
  (∀ (n : LaneNo) (g : Diagnosis) (s : State), (s.lane n).diag = some g →
    let queued := fun (g : Diagnosis) (start : Nat) => (({ s with
      verify := { s.verify with
        queue := s.verify.queue ++
          [⟨n, .diagnosis, start, min 32 (imageSectors s g.slot - start), g.slot, g.serial, s.verify.arrivals⟩]
        arrivals := satInc max64 s.verify.arrivals }
      signals := s.signals ++ [.grant] } : State).setLane n { s.lane n with
        diag := some { g with blockStart := start, blockCount := min 32 (imageSectors s g.slot - start) }
        verify := { (s.lane n).verify with stage := .queued } })
    (pinFinds s g.slot g.page = .ready → diagPage n s = diagReady n (pinPage n .diagnostic g.slot g.page s)) ∧
    (pinFinds s g.slot g.page = .waits → diagPage n s = pinPage n .diagnostic g.slot g.page s) ∧
    (pinFinds s g.slot g.page = .failed → diagPage n s = holdJobFor g.slot .imageFetch (diagEnd n .reference s)) ∧
    diagReady n s = queued g (64 * g.page) ∧
    ∀ (tally : Nat) (differs : Option Nat),
      let told : Diagnosis := { g with
        sectorsCompared := g.sectorsCompared + g.blockCount, mismatches := min max16 (g.mismatches + tally)
        firstMismatch := if g.firstMismatch = none then differs else g.firstMismatch }
      let pageEnd := min (64 * g.page + 64) (imageSectors s g.slot)
      (g.blockStart + 32 < pageEnd → diagBlockDone n tally differs s = queued told (g.blockStart + 32)) ∧
      (pageEnd ≤ g.blockStart + 32 → 64 * g.page < imageSectors s g.slot →
        let done : Diagnosis := { told with pagesDone := g.pagesDone + 1 }
        ∃ v, v.lane n = { s.lane n with diag := some done, pins := (v.lane n).pins } ∧
          (∀ p, p ∈ (v.lane n).pins ↔ p ∈ (s.lane n).pins ∧ p.kind ≠ .diagnostic) ∧ (∀ m, m ≠ n → v.lane m = s.lane m) ∧
          v = { s with frames := v.frames, fetch := v.fetch, lanes := v.lanes } ∧
          (g.page < g.lastPage → diagBlockDone n tally differs s =
            diagPage n (v.setLane n { v.lane n with diag := some { done with page := g.page + 1, blockCount := 0 } })) ∧
          (g.lastPage ≤ g.page → diagBlockDone n tally differs s =
            diagEnd n (if told.mismatches = 0 then .pass else .mismatch) v))) ∧
  (∀ (n : LaneNo) (p : LanePin) (s : State), PinsStand s → p ∈ (s.lane n).pins → (s.lane n).pins.Nodup →
    PinsStand (dropPin n p s) ∧ ((dropPin n p s).lane n).pins = (s.lane n).pins.filter fun q => decide (q ≠ p)) ∧
  (∀ (n : LaneNo) (how : DiagEnd) (g : Diagnosis) (s : State), (s.lane n).diag = some g →
    ∃ w t, t = logEntry .diagDone n.val (byte g.slot.val ++ byte how.code)
        (report (0x3000 + 128 * n.val) (laneBlock (w.lane n) (s.link n).up) w) ∧
      w.lane n = { s.lane n with
        diag := none, pins := (w.lane n).pins
        diagResult := some ⟨how, g.slot, g.pagesDone, g.sectorsCompared, g.mismatches, g.firstMismatch⟩ } ∧
      (∀ p, p ∈ (w.lane n).pins ↔ p ∈ (s.lane n).pins ∧ p.kind ≠ .diagnostic) ∧ (∀ m, m ≠ n → w.lane m = s.lane m) ∧
      w = { s with frames := w.frames, fetch := w.fetch, lanes := w.lanes } ∧
      ((s.lane n).state = .idle → diagEnd n how s = { t with signals := s.signals ++ [.dispatch, .stalls] }) ∧
      ((s.lane n).state ≠ .idle → diagEnd n how s = t)) ∧
  ∀ (e : List Byte) (s : State), Settled s → AtEntry .diagnoseLane e s →
    let answers := fun code => exec .diagnoseLane s = .next (finishEntry code [] s)
    (reqLane e = none → answers .badField) ∧
    ∀ n, reqLane e = some n → (reqDiagSlot e = none → answers .badSlot) ∧
      ∀ j, reqDiagSlot e = some j → ((s.lane n).diag ≠ none → answers .busy) ∧
        ((s.lane n).diag = none →
          ((s.lane n).state ≠ .idle ∧ (s.lane n).state ≠ .offline → answers .badState) ∧
          ((s.lane n).state = .idle ∨ (s.lane n).state = .offline →
            ((s.job j).state = .free → answers .badState) ∧
            ((s.job j).state ≠ .free →
              let fits := 1 ≤ reqPageCount e ∧ reqPageCount e ≤ 64 ∧
                reqFirstPage e + reqPageCount e ≤ pageCount (imageSectors s j)
              (¬ fits → answers .badField) ∧
              (fits → exec .diagnoseLane s = .next (finishEntry .ok [] (settle
                ((diagPage n (s.setLane n { s.lane n with
                  diag := some ⟨j, reqFirstPage e, reqFirstPage e + reqPageCount e - 1, diagSerial (s.job j), 0, 0, 0, 0, 0, none⟩
                  })).emit .stalls)))))))

/-- REFILL and EMPTIED (R124 to R126): BAD_FIELD for another spindle, or for a count above the capacity; otherwise the spindle's count and
flag are set, its entry is written, and a flag that cleared brings a dispatch pass and a selection, and brings the stall flags up to date.
That a REFILL of count 0 shows UNKNOWN is log 36 (DEDUCED), that every accepted request writes the entry and only a flag that was set
brings the passes log 43 (DEDUCED). The stall flags of a job (R21) are the failing conditions of R18 while it is RUNNING below its copies,
and clear otherwise; nothing else of a job changes with them. -/
def Obligations.SpindleRequestsTaken : Prop :=
  (∀ (j : SlotNo) (s : State), ∃ u, takeSignal .stalls s = u ∧ u.job j = { s.job j with stall := (u.job j).stall } ∧
    u = { s with port := u.port, jobs := u.jobs, host := u.host } ∧
    ((s.job j).record = none ∨ (s.job j).state ≠ .running → (u.job j).stall = StallFlags.clear) ∧
    ∀ r, (s.job j).record = some r → (s.job j).state = .running →
      let sum := (s.job j).good + (s.job j).inFlight + (s.job j).reserved
      (r.copies ≤ sum → (u.job j).stall = StallFlags.clear) ∧
      (sum < r.copies →
        (u.job j).stall.supplyEmpty = (s.entry (spindleStation r.spindle)).empty ∧
        (u.job j).stall.outputFull = (s.entry stationOutput).full ∧ (u.job j).stall.rejectFull = (s.entry stationReject).full ∧
        ((u.job j).stall.rosterFull = true ↔ ∀ i, s.disc i ≠ none) ∧
        ((u.job j).stall.noLane = true ↔
          ∀ n : LaneNo, r.laneSet.getLsbD n.val = true → (s.lane n).state = .idle → (s.lane n).diag ≠ none))) ∧
  ∀ (e : List Byte) (s : State), Settled s →
    let brings := fun (was : Bool) => if was then [Signal.dispatch, .stalls, .select] else []
    (AtEntry .refill e s →
      (reqInput e = none → exec .refill s = .next (finishEntry .badField [] s)) ∧
      ∀ x, reqInput e = some x →
        ((s.station (spindleStation x)).capacity < reqFill e → exec .refill s = .next (finishEntry .badField [] s)) ∧
        (reqFill e ≤ (s.station (spindleStation x)).capacity →
          ∃ u, exec .refill s = .next (finishEntry .ok [] (settle u)) ∧
            u.entry (spindleStation x) = { s.entry (spindleStation x) with
              count := reqFill e, empty := false, occupancy := if 0 < reqFill e then .occupied else .unknown } ∧
            (∀ k, k ≠ spindleStation x → u.entry k = s.entry k) ∧
            u.signals = brings (s.entry (spindleStation x)).empty ∧
            u = { report (0x4000 + 16 * (spindleStation x).val) (entryBytes (u.entry (spindleStation x)))
              (s.setEntry (spindleStation x) (u.entry (spindleStation x))) with signals := u.signals })) ∧
    (AtEntry .emptied e s →
      (reqEmptied e = none → exec .emptied s = .next (finishEntry .badField [] s)) ∧
      ∀ k, reqEmptied e = some k →
        ∃ u, exec .emptied s = .next (finishEntry .ok [] (settle u)) ∧ (k = 2 ∨ k = 3) ∧
          u.entry k = { s.entry k with count := 0, full := false, occupancy := .empty } ∧
          (∀ m, m ≠ k → u.entry m = s.entry m) ∧ u.signals = brings (s.entry k).full ∧
          u = { report (0x4000 + 16 * k.val) (entryBytes (u.entry k)) (s.setEntry k (u.entry k)) with signals := u.signals })

/-- CLEAR_TRANSPORT, CLEAR_PRINTER and SET_PROFILE (R141, R160, R163): a STOPPED or FAULTED arm homes where the STOP input is negated; a
FAULTED printer with the ribbon in is FINISHED with its disc or an orphan, or EMPTY where its tray is known EMPTY, and a standing present
request is served, a home seek under way for it giving way to a new one (PrinterTrayMovesEnd says what finishPrinter and servePresent do);
a legal profile read from inside the window is in force where the printer is EMPTY: its fields, at the offsets of 11.8, lie in the ranges
of R162. Otherwise the answer is the code the rules give. An orphan where the printer holds no disc and its tray is not known EMPTY is log
44 (DEDUCED); the ribbon-out level that a CLEAR_PRINTER reads is kept, refused or not, by log 11 (DESIGN CHOICE). -/
def Obligations.ClearAndProfileRequestsTaken : Prop :=
  (∀ (e : List Byte) (ribbonOut : Bool) (s : State), Settled s →
      (AtEntry .clearTransport e s →
        ((s.transport.arm = .stopped ∨ s.transport.arm = .faulted) ∧ s.pins.stop = false →
          ∃ u, exec .clearTransport s = .next (finishEntry .ok [] u) ∧
            u.transport = { s.transport with arm := .homing, posValid := false, homing := some .lift, homeDue := false, timer := some s.port.timeBase } ∧
            u = { s with port := u.port, transport := u.transport, host := u.host }) ∧
        ((s.transport.arm ≠ .stopped ∧ s.transport.arm ≠ .faulted) ∨ s.pins.stop = true →
          exec .clearTransport s = .next (finishEntry .badState [] s))) ∧
      (AtEntry .clearPrinter e s →
        (s.printer.state = .faulted ∧ ribbonOut = false →
          let cleared : Printer := { s.printer with
            cause := none, move := if s.printer.present = true ∧ s.printer.move = some .homeSeek then none else s.printer.move }
          let s1 : State := { s with pins := { s.pins with ribbonOut := false } }
          (s.printer.disc ≠ none ∨ (s.entry 4).occupancy ≠ .empty →
            exec (.clearPrinter ribbonOut) s = .next (finishEntry .ok [] (settle (finishPrinter { s1 with
              printer := { cleared with disc := if s.printer.disc = none then some .orphan else s.printer.disc } })))) ∧
          (s.printer.disc = none → (s.entry 4).occupancy = .empty →
            ∃ w, exec (.clearPrinter ribbonOut) s = .next (finishEntry .ok [] (settle (servePresent w))) ∧
              w.printer = { cleared with state := .empty } ∧ .select ∈ w.signals ∧
              w = { s1 with port := w.port, printer := w.printer, host := w.host, signals := w.signals })) ∧
        (s.printer.state ≠ .faulted ∨ ribbonOut = true →
          exec (.clearPrinter ribbonOut) s =
            .next (finishEntry .badState [] { s with pins := { s.pins with ribbonOut := ribbonOut } })))) ∧
  (∀ b : List Byte,
    let p := profileOfBytes b
    (p.table = (List.range 17).map (fun i => (BitVec.ofNat 16 (fieldAt b (2 * i) 2)).toInt) ∧ p.tmax = fieldAt b 0x22 2 ∧
      p.kt = fieldAt b 0x24 1 ∧ p.p0 = fieldAt b 0x26 2 ∧ p.vref = fieldAt b 0x28 2 ∧ p.vmin = fieldAt b 0x2A 2 ∧
      p.pmin = fieldAt b 0x2C 2 ∧ p.pmax = fieldAt b 0x2E 2 ∧ p.h1 = fieldAt b 0x30 2 ∧ p.h2 = fieldAt b 0x32 2 ∧
      p.period = fieldAt b 0x34 2) ∧
    (profileLegal p = true ↔ (∀ t, t ∈ p.table → -160 ≤ t ∧ t ≤ 600) ∧ p.tmax ≤ 600 ∧ p.kt ≤ 63 ∧ 200 ≤ p.p0 ∧ p.p0 ≤ 4000 ∧
      10000 ≤ p.vref ∧ p.vref ≤ 30000 ∧ 5000 ≤ p.vmin ∧ p.vmin ≤ 30000 ∧ 50 ≤ p.pmin ∧ p.pmin ≤ p.pmax ∧ p.pmax ≤ 4000 ∧
      64 ≤ p.h2 ∧ p.h2 ≤ p.h1 ∧ p.h1 ≤ 256 ∧ 1000 ≤ p.period ∧ p.period ≤ 20000)) ∧
  ∀ (e : List Byte) (record : HostRead) (s : State), Settled s → AtEntry .setProfile e s →
    let answers := fun code => exec (.setProfile record) s = .next (finishEntry code [] s)
    let inside := s.port.windowBase.toNat + 0x18000 ≤ reqAddress e ∧
      reqAddress e + 64 ≤ s.port.windowBase.toNat + s.port.windowSize.toNat
    (s.printer.state ≠ .empty → answers .busy) ∧
    (s.printer.state = .empty →
      (¬ inside ∨ record = .error → answers .badAddress) ∧
      ∀ bs p, inside → record = .data bs → p = profileOfBytes (fitBytes 64 bs) →
        (profileLegal p = false → answers .badField) ∧
        (profileLegal p = true →
          ∃ u, exec (.setProfile record) s = .next (finishEntry .ok [] u) ∧ u.printer = { s.printer with profile := p } ∧
            u = { s with port := u.port, printer := u.printer, host := u.host }))

/-! ### Start-up and the STOP input -/

/-- ROSTER_RECORD_READ (R40 to R42): what the clean does with a record by its outcome and location, record 255 as every other: a record it
rewrites is written whole to the window, one rewritten REJECTED with RESET is logged as DISC_REJECTED with the disc index as its subject
and RESET in its detail, and one kept or FREE is not written; then the next record, or after record 255 the homing of the arm, which waits
while the STOP input is asserted (R145); and the part FAULTED by a read that failed. -/
def Obligations.RosterCleanActs : Prop :=
  ∀ (bs b : List Byte) (d : DiscNo) (s : State), s.port.part = .starting → s.roster.clean = some d.val → b = fitBytes 128 bs →
    let put := fun (x : Option DiscRecord) =>
      ({ s with roster := { s.roster with map := s.roster.map.set d.val x d.isLt } } : State)
    let written := fun (x : Option DiscRecord) => report (0x10000 + 128 * d.val) (rosterBytes x) (put x)
    let takes := fun (t : State) => exec (.rosterRecordRead (.data bs)) s = .next (settle (
      if d.val < 255 then { t with roster := { t.roster with clean := some (d.val + 1) } }
      else if t.pins.stop then
        { t with roster := { t.roster with clean := none }, transport := { t.transport with homeDue := true } }
      else beginHoming { t with roster := { t.roster with clean := none } }))
    (fieldAt b 0 1 = 0 → takes (put none)) ∧
    (fieldAt b 0 1 = DiscOutcome.good.code → takes (put (some (discOfBytes .good b)))) ∧
    (fieldAt b 0 1 = DiscOutcome.rejected.code →
      ((discOfBytes .rejected b).location = .reject → takes (put (some (discOfBytes .rejected b)))) ∧
      ((discOfBytes .rejected b).location ≠ .reject →
        takes (written (some { discOfBytes .rejected b with location := .nowhere })))) ∧
    (fieldAt b 0 1 = DiscOutcome.reserved.code ∨ fieldAt b 0 1 = DiscOutcome.pending.code ∨
        fieldAt b 0 1 = DiscOutcome.passed.code →
      takes (logEntry .discRejected d.val (byte RejectReason.reset.code)
        (written (some { discOfBytes .rejected b with location := .nowhere, reason := some .reset })))) ∧
    (5 < fieldAt b 0 1 → takes (written none)) ∧
    (∃ u, exec (.rosterRecordRead (.data bs)) s = .next (settle u) ∧ (∀ k, k ≠ d → u.disc k = s.disc k) ∧
      u = { s with port := u.port, roster := u.roster, transport := u.transport, host := u.host } ∧
      (fieldAt b 0 1 = 0 → u.disc d = none) ∧
      (fieldAt b 0 1 = DiscOutcome.good.code → u.disc d = some (discOfBytes .good b)) ∧
      (fieldAt b 0 1 = DiscOutcome.rejected.code →
        ((discOfBytes .rejected b).location = .reject → u.disc d = some (discOfBytes .rejected b)) ∧
        ((discOfBytes .rejected b).location ≠ .reject →
          u.disc d = some { discOfBytes .rejected b with location := .nowhere })) ∧
      (fieldAt b 0 1 = DiscOutcome.reserved.code ∨ fieldAt b 0 1 = DiscOutcome.pending.code ∨
          fieldAt b 0 1 = DiscOutcome.passed.code →
        u.disc d = some { discOfBytes .rejected b with location := .nowhere, reason := some .reset }) ∧
      (5 < fieldAt b 0 1 → u.disc d = none) ∧
      (d.val < 255 → u.roster.clean = some (d.val + 1) ∧ u.transport = s.transport ∧
        (fieldAt b 0 1 = 0 ∨ fieldAt b 0 1 = DiscOutcome.good.code ∨
            (fieldAt b 0 1 = DiscOutcome.rejected.code ∧ (discOfBytes .rejected b).location = .reject) →
          u.port = s.port ∧ u.host = s.host)) ∧
      (d.val = 255 → u.roster.clean = none ∧ u.port.part = .starting ∧
        (s.pins.stop = false → u.transport.arm = .homing ∧ u.transport.homing = some .lift ∧ u.transport.posValid = false) ∧
        (s.pins.stop = true → u.transport = { s.transport with homeDue := true }))) ∧
    ∃ u, exec (.rosterRecordRead .error) s = .next (settle u) ∧ u.port.part = .faulted ∧ u.transport.arm = .unhomed ∧
      u.transport.posValid = false ∧ u.roster = ⟨Vector.replicate 256 none, none⟩ ∧
      u = { s with port := u.port, roster := u.roster, transport := u.transport, host := u.host }

/-- STOP_ASSERTED and STOP_CLEARED (R137, R140, R141, R145, R161): the assertion sets STOP, is logged in STARTING and RUNNING, stops the
arm and halts the printer; the negation is logged likewise and, in STARTING with the roster clean done, brings the homing that waits. An
arm in any state but UNHOMED stands STOPPED, with its positions invalid, its timer and homing dropped and its task kept, one whose disc
was decided REJECTED on the way too: no lane is told and none changes, so a lane in TRAY_LOAD keeps its state and its tray (R66). The
reject carry such a LOAD is made of, and what its lane is told, follow at the arm's next request (log 77). The printer keeps its state
name with the halt mark set, its head and its motions stopped and its tray LOST; a disc in LOADED is decided REJECTED with
LABEL_INCOMPLETE, and so is that of a print, whose binding ends. An input that already stands so changes nothing (log 11, DESIGN CHOICE).
-/
def Obligations.StopInputTaken : Prop :=
  (∀ s : State,
    let logs := fun (k : LogKind) (t : State) =>
      if s.port.part = .starting ∨ s.port.part = .running then logEntry k 0 [] t else t
    (s.pins.stop = true → exec .stopAsserted s = .next s) ∧
    (s.pins.stop = false → exec .stopCleared s = .next s ∧
      exec .stopAsserted s = .next (settle (haltPrinter (stopArm (logs .stopAsserted
        { s with pins := { s.pins with stop := true }, port := { s.port with cause := s.port.cause ||| 4 } }))))) ∧
    (s.pins.stop = true →
      let t := logs .stopCleared { s with pins := { s.pins with stop := false } }
      (¬ (s.port.part = .starting ∧ s.transport.homeDue = true ∧ s.roster.clean = none) →
        exec .stopCleared s = .next (settle t)) ∧
      (s.port.part = .starting → s.transport.homeDue = true → s.roster.clean = none →
        exec .stopCleared s = .next (settle (beginHoming t)) ∧ (beginHoming t).transport.arm = .homing))) ∧
  (∀ s : State,
    (stopArm s).transport = { s.transport with
      arm := if s.transport.arm = .unhomed then .unhomed else .stopped, posValid := false, homing := none, timer := none
      homeDue := s.transport.homeDue || (decide (s.port.part = .starting) && s.roster.clean.isNone) } ∧
    stopArm s = { s with port := (stopArm s).port, transport := (stopArm s).transport, host := (stopArm s).host }) ∧
  (∀ (f : Bool) (c : ArmTask) (s : State), s.transport.current = some c →
    ∃ v, v.transport.current = some { c with task := { c.task with dest := stationReject }, redirect := false } ∧
      (∀ k, v.entry k = if k = c.task.dest ∧ isTray k = true then { s.entry k with claim := false } else s.entry k) ∧
      v = { s with port := v.port, transport := v.transport, host := v.host } ∧
      (∀ n i, c.task.kind = .load → laneOfTray c.task.dest = some n → c.cargo = some (.disc i) →
        makeRejectCarry f s = laneWithdrawn n i f v) ∧
      (c.task.kind ≠ .load ∨ laneOfTray c.task.dest = none ∨ (∀ i, c.cargo ≠ some (.disc i)) → makeRejectCarry f s = v)) ∧
  ∀ s : State,
    let p := s.printer
    let prints := p.state = .printing ∨ p.state = .hotHold ∨ p.state = .supplyWait
    (p.halt = true → haltPrinter s = s) ∧
    (p.halt = false →
      ∃ u, haltPrinter s = u ∧ u.printer.halt = true ∧ u.printer.state = p.state ∧ u.printer.cause = p.cause ∧
        u.printer.disc = p.disc ∧ u.printer.complete = p.complete ∧ u.printer.present = p.present ∧
        u.printer.tray = .lost ∧ u.printer.move = none ∧ u.printer.head = none ∧ u.printer.strike = none ∧
        u.printer.line = .off ∧ (prints → u.printer.bound = none ∧ u.printer.buffer = Vector.replicate 4 .empty) ∧
        (∀ d x, p.disc = some (.disc d) → prints ∨ p.state = .loaded → s.disc d.index = some x → x.outcome = .passed →
          u.disc d.index = some { x with outcome := .rejected, reason := some .labelIncomplete } ∧
          ∀ i, i ≠ d.index → u.disc i = s.disc i) ∧
        (p.state ∈ [.empty, .finished, .faulted] → u = { s with port := u.port, printer := u.printer, host := u.host }))

/-! ### The drive link (chapter 5) -/

/-- LINK_FRAME_FAILED, LINK_FRAME_GOOD and LINK_UP (R87, R91, R93, R95): a failed frame of an UP port advances the count, which holds
at 8; a good one brings it to 0 and, where it ended the oldest message, takes that message off the port; a DOWN port takes neither, and
becomes UP with its count 0, a FAULTED lane with no tray command outstanding sending TRAY QUERY. That the count holds at 8 and a good
frame is taken below 8 alone is log 13 (DEDUCED), the message taken off at its last frame log 47 (DEDUCED), the frames of a DOWN port log 4
(DESIGN CHOICE), and that a lane with a tray command unanswered sends nothing log 55 (DESIGN CHOICE). -/
def Obligations.LinkFramesAndUpTaken : Prop :=
  (∀ (n : LaneNo) (finished : Bool) (s : State),
      ((s.link n).up = true →
        exec (.linkFrameFailed n) s = .next (s.setLink n { s.link n with fails := min 8 ((s.link n).fails + 1) }) ∧
        ((s.link n).fails < 8 →
          exec (.linkFrameGood n finished) s = .next (s.setLink n { s.link n with
            fails := 0, outbound := if finished then (s.link n).outbound.tail else (s.link n).outbound }))) ∧
      ((s.link n).up = false → exec (.linkFrameFailed n) s = .next s ∧ exec (.linkFrameGood n finished) s = .next s)) ∧
  ∀ (n : LaneNo) (s : State), Settled s →
    ((s.link n).up = true → exec (.linkUp n) s = .next s) ∧
    ((s.link n).up = false →
      ((s.lane n).state ≠ .faulted ∨ (s.lane n).waits.tray ≠ none →
        exec (.linkUp n) s = .next (s.setLink n ⟨true, 0, []⟩)) ∧
      ((s.lane n).state = .faulted → (s.lane n).waits.tray = none →
        exec (.linkUp n) s = .next ((s.setLink n ⟨true, 0, [.tray .query]⟩).setLane n { s.lane n with
          waits := { (s.lane n).waits with tray := some ⟨.query, .recovery, s.port.timeBase⟩ }, restPending := false })))

/-- LINK_DOWN (R86, R92, R102): at the eighth failed frame the messages the port still holds are delivered, each as the command of its
kind delivers it, in their order, and none once the link is DOWN; then the port is DOWN with its count 0 and its messages discarded, and
every wait and speed request of the lane is dropped, in each state. UNKNOWN in its inventory leads to FAULTED by R105 (in R86 an UNKNOWN
lane stays), a lane whose inventory waits for a tray command from before a RUN being in it too (log 10, DEDUCED), and IDLE by R86; in
LOAD_WAIT a queued LOAD is withdrawn, its record freed and the lane FAULTED, and a begun one leaves DRIVE_FAULT, with a disc picked
already decided REJECTED (log 24, DEDUCED); from TRAY_LOAD to VERIFYING the PENDING disc is decided REJECTED with DRIVE_FAULT, with no
ABORT, and stays the lane's where it stands in the tray; in UNLOAD_WAIT and TRAY_UNLOAD the UNLOAD is given up and the disc stays where it
was not gripped; OFFLINE and FAULTED stand. A lane whose load was withdrawn, or whose disc was gripped, is FAULTED holding no disc. Each
entry to FAULTED writes the lane's block with the disc it then holds, if any (R64), and logs LANE_FAULT, whose disc index takes one byte
(log 59, PRESUMED: 11.8 gives it no width). The command is the eighth failed frame, or follows a LINK_FRAME_FAILED that was it: it is
taken from seven failed frames on and not below (log 13, DEDUCED). -/
def Obligations.LinkDownTaken : Prop :=
  (∀ (n : LaneNo) (held : List DriveMsg) (s : State),
    ((s.link n).up = false ∨ (s.link n).fails < 7 → exec (.linkDown n held) s = .next s) ∧
    ((s.link n).up = true → 7 ≤ (s.link n).fails →
      exec (.linkDown n held) s = .next (settle (portDown n (deliverHeld n held s))) ∧
      exec (.linkDown n []) s = .next (settle (portDown n s)))) ∧
  (∀ (n : LaneNo) (s : State), deliverHeld n [] s = s ∧ ∀ (m : DriveMsg) (rest : List DriveMsg),
    deliverHeld n (m :: rest) s = deliverHeld n rest (settle (deliver n m s)) ∧ ((s.link n).up = false → deliver n m s = s)) ∧
  (∀ (n : LaneNo) (s : State),
    (∀ loaded blank cls offered,
      exec (.media n loaded blank cls offered) s = .next (settle (deliver n (.media loaded blank cls offered) s))) ∧
    (∀ rate, exec (.speedAck n rate) s = .next (settle (deliver n (.speedAck rate) s)) ∧
      exec (.speedRefused n rate) s = .next (settle (deliver n (.speedRefused rate) s))) ∧
    exec (.openAck n) s = .next (deliver n .openAck s) ∧ (∀ c, exec (.credit n c) s = .next (deliver n (.credit c) s)) ∧
    exec (.gap n) s = .next (settle (deliver n .gap s)) ∧ exec (.closed n) s = .next (settle (deliver n .closed s)) ∧
    (∀ sector status bs, exec (.rdata n sector status bs) s = .next (settle (deliver n (.rdata sector status bs) s))) ∧
    (∀ tray disc, exec (.trayState n tray disc) s = .next (settle (deliver n (.trayState tray disc) s))) ∧
    (∀ code, exec (.fault n code) s = .next (settle (deliver n (.fault code) s))) ∧
    exec (.malformedMessage n) s = .next (deliver n .malformed s)) ∧
  (∀ (n : LaneNo) (s : State),
    let l := s.lane n
    let s0 := s.setLink n ⟨false, 0, []⟩
    let dropped : Lane := { l with waits := Waits.none, speedReq := none }
    let marked : Lane := { dropped with refuse := some .driveFault }
    let inventory := ∃ w, l.waits.tray = some w ∧ (w.purpose = .inventory ∨ w.purpose = .stale true)
    let u := portDown n s
    u.link n = ⟨false, 0, []⟩ ∧ (∀ m, m ≠ n → u.link m = s.link m) ∧ (u.lane n).waits = Waits.none ∧ (u.lane n).speedReq = none ∧
    (l.state = .offline ∨ l.state = .faulted ∨ (l.state = .unknown ∧ ¬ inventory) → u = s0.setLane n dropped) ∧
    (l.state = .idle ∨ (l.state = .unknown ∧ inventory) → u = faultLane n .linkDown none (s0.setLane n dropped)) ∧
    (l.state = .loadWait →
      (∀ d t, l.disc = some d → s.queued (requesterOf n) = some t → t.kind = .load →
        (u.lane n).state = .faulted ∧ (u.lane n).disc = none ∧ (u.lane n).refuse = none ∧ u.disc d.index = none ∧
        (u.job d.slot).reserved = (s.job d.slot).reserved - 1 ∧ u.queued (requesterOf n) = none ∧
        (∀ m, m ≠ n → u.lane m = s.lane m)) ∧
      (s.queued (requesterOf n) = none → discPending s n = false → u = s0.setLane n marked) ∧
      (s.queued (requesterOf n) = none → discPending s n = true → u = laneReject n .driveFault 0 id (s0.setLane n marked))) ∧
    (∀ d x, l.state ∈ [.trayLoad, .probing, .negotiating, .writing, .closing, .verifying] → l.disc = some d →
      s.disc d.index = some x → x.outcome = .pending → x.slot = BitVec.ofNat 8 d.slot.val →
      (u.lane n).state = .faulted ∧ (u.lane n).inTray = l.inTray ∧
      (u.lane n).disc = (if loadWithdrawn l then none else some d) ∧
      (∃ v, u = if loadWithdrawn l then faultEmpty n .linkDown none v else faultLane n .linkDown none v) ∧
      u.disc d.index = some { x with
        outcome := .rejected, reason := some .driveFault
        totals := if x.writeStart.isSome ∧ x.writeEnd = none then some (laneTotals l) else x.totals
        verify := if l.state = .verifying then some ⟨l.verify.hard, l.verify.miscompare, l.verify.soft⟩ else x.verify } ∧
      (∀ i, i ≠ d.index → u.disc i = s.disc i) ∧
      (u.job d.slot).rejected = satInc max32 (s.job d.slot).rejected ∧ (u.job d.slot).inFlight = (s.job d.slot).inFlight - 1 ∧
      (∀ j, j ≠ d.slot → u.job j = s.job j) ∧ (l.inTray = false → .armRejected ∈ u.signals)) ∧
    (l.state = .unloadWait ∨ l.state = .trayUnload → (u.lane n).state = .faulted ∧ u.roster = s.roster ∧ u.jobs = s.jobs ∧
      (u.lane n).disc = (if l.inTray then l.disc else none) ∧ (u.lane n).orphan = false ∧ (u.lane n).inTray = l.inTray ∧
      (∃ v, u = if l.inTray then faultLane n .linkDown none v else faultEmpty n .linkDown none v) ∧
      (∀ t, u.queued (requesterOf n) = some t → t.kind ≠ .unloadLane) ∧ (∀ m, m ≠ n → u.lane m = s.lane m) ∧
      u = { s with port := u.port, lanes := u.lanes, links := u.links, transport := u.transport, host := u.host
                   signals := u.signals })) ∧
  (∀ l : Lane, loadWithdrawn l = true ↔
    ∃ w f, l.waits.tray = some w ∧ (w.purpose = .withdrawOpen f ∨ w.purpose = .withdrawClose f)) ∧
  ∀ (n : LaneNo) (cause : LaneCause) (tray : Option TrayCmd) (s : State),
    let detail := byte cause.code ++ (match tray with
      | some x => byte x.code ++ byte (match (s.lane n).disc with | some d => d.index.val | none => 0)
      | none => [])
    let enters := fun (l : Lane) (t : State) => ∃ v, t = (logEntry .laneFault n.val detail v).emit .sweepTest ∧
      v.lane n = { l with
        state := .faulted, orphan := false, restPending := false
        trail := if l.state = .faulted then l.trail else lastEight (l.trail ++ [(.faulted, s.port.timeBase)]) } ∧
      (∀ m, m ≠ n → v.lane m = s.lane m) ∧ v.signals = s.signals ++ (if l.state = .faulted then [] else [.stalls]) ∧
      (l.state ≠ .faulted → ∃ b, v = { report (0x3000 + 128 * n.val) (laneBlock (v.lane n) (s.link n).up) b with signals := v.signals }) ∧
      v = { s with port := v.port, lanes := v.lanes, host := v.host, signals := v.signals }
    enters (s.lane n) (faultLane n cause tray s) ∧
    enters { s.lane n with disc := none, refuse := none } (faultEmpty n cause tray s)

/-! ### Probing, speeds and writing (chapter 4) -/

/-- MEDIA (R67, R68; R15, R9): the kept rates are stored and the probe checks made in order; the first that fails ends the disc with its
reason, and a disc that passes enters NEGOTIATING with its ceiling fixed and its highest candidate asked for, or, with no kept rate at or
below the ceiling, is decided REJECTED with NO_SPEED at once. The kept rates are those of 75 to 32,767, ascending and without repeats; the
ceiling is the smallest of the caps that are not 0 and the highest kept rate. A MEDIA nobody waits for is stray. A probe rejected with
WRONG_MEDIA or NOT_BLANK advances the job's run of bad probes, which holds at 3, and the one that brings it to 3 is a SUPPLY_SUSPECT hold
cause; other reasons leave the run. A hold cause holds a RUNNING or DRAINING job, with its entry and its queued loads withdrawn, and no
other. -/
def Obligations.MediaJudged : Prop :=
  (∀ (n : LaneNo) (mediaClass : BitVec 8) (blank : Bool) (capacity : BitVec 32) (rates : List (BitVec 16)) (s : State),
    (s.link n).up = true → rates.length ≤ 8 →
    ((s.lane n).state ≠ .probing ∨ (s.lane n).waits.media = none →
      exec (.media n mediaClass blank capacity rates) s = .next (settle (strayMessage n s))) ∧
    ∀ d r, (s.lane n).state = .probing → (s.lane n).waits.media ≠ none → (s.lane n).disc = some d → laneRecord s n = some r →
      let kept := keptRates rates
      let s1 := s.setLane n { s.lane n with offered := kept, waits := { (s.lane n).waits with media := none } }
      let fails := fun why => exec (.media n mediaClass blank capacity rates) s = .next (settle (probeFail n why 0 s1))
      (mediaClass.toNat ≠ r.mediaClass → fails .wrongMedia) ∧
      (mediaClass.toNat = r.mediaClass → (blank = false → fails .notBlank) ∧
        (blank = true → (capacity.toNat < r.imageSectors → fails .tooSmall) ∧
          (r.imageSectors ≤ capacity.toNat → (kept = [] → fails .noSpeed) ∧
            (kept ≠ [] → highestBelow kept (discCeiling (s.lane n).cap r.speedCap kept + 1) = none →
              ∃ v, exec (.media n mediaClass blank capacity rates) s = .next (settle (laneReject n .noSpeed 0 id v)) ∧
                (v.lane n).state = .negotiating ∧ (v.lane n).ceiling = some (discCeiling (s.lane n).cap r.speedCap kept) ∧
                (v.lane n).offered = kept ∧ (v.lane n).speedReq = (s.lane n).speedReq ∧ (v.job d.slot).probeRun = 0 ∧
                (∀ m, m ≠ n → v.lane m = s.lane m) ∧ (∀ j, j ≠ d.slot → v.job j = s.job j) ∧
                v = { s with port := v.port, jobs := v.jobs, lanes := v.lanes, host := v.host, signals := v.signals }) ∧
            (kept ≠ [] → ∀ rate, highestBelow kept (discCeiling (s.lane n).cap r.speedCap kept + 1) = some rate →
              ∃ u, exec (.media n mediaClass blank capacity rates) s = .next (settle u) ∧ (u.lane n).state = .negotiating ∧
                (u.lane n).ceiling = some (discCeiling (s.lane n).cap r.speedCap kept) ∧ (u.lane n).offered = kept ∧
                (u.lane n).speedReq = some ⟨rate, .negotiate, s.port.timeBase⟩ ∧ (u.job d.slot).probeRun = 0 ∧
                u.link n = { s.link n with outbound := (s.link n).outbound ++ [.setSpeed rate] } ∧
                (∀ m, m ≠ n → u.lane m = s.lane m) ∧ (∀ j, j ≠ d.slot → u.job j = s.job j) ∧
                u = { s with
                  port := u.port, jobs := u.jobs, lanes := u.lanes, links := u.links, host := u.host, signals := u.signals }))))) ∧
  (∀ rates : List (BitVec 16),
    let kept := keptRates rates
    kept.Pairwise (· < ·) ∧ kept.length ≤ rates.length ∧
    (∀ r, r ∈ kept ↔ 75 ≤ r ∧ r ≤ 32767 ∧ ∃ x, x ∈ rates ∧ x.toNat = r) ∧
    (∀ laneCap speedCap c, kept ≠ [] →
      (discCeiling laneCap speedCap kept = c ↔
        (laneCap ≠ 0 → c ≤ laneCap) ∧ (speedCap ≠ 0 → c ≤ speedCap) ∧ (∃ r, r ∈ kept ∧ c ≤ r) ∧
        ((laneCap ≠ 0 ∧ c = laneCap) ∨ (speedCap ≠ 0 ∧ c = speedCap) ∨ (c ∈ kept ∧ ∀ r, r ∈ kept → r ≤ c)))) ∧
    ∀ bound, (highestBelow kept bound = none ↔ ∀ r, r ∈ kept → bound ≤ r) ∧
      ∀ r, highestBelow kept bound = some r ↔ r ∈ kept ∧ r < bound ∧ ∀ x, x ∈ kept → x < bound → x ≤ r) ∧
  (∀ (n : LaneNo) (d : DiscRef) (why : RejectReason) (code : Nat) (s : State), (s.lane n).disc = some d →
    probeFail n why code s = probeRejected d.slot why (laneReject n why code id s)) ∧
  (∀ (j : SlotNo) (why : RejectReason) (s : State),
    (why ≠ .wrongMedia → why ≠ .notBlank → probeRejected j why s = s) ∧
    (why = .wrongMedia ∨ why = .notBlank →
      ∃ t, t.job j = { s.job j with probeRun := min 3 ((s.job j).probeRun + 1) } ∧ (∀ k, k ≠ j → t.job k = s.job k) ∧
        t = { s with port := t.port, jobs := t.jobs, host := t.host } ∧
        ((s.job j).probeRun ≠ 2 → probeRejected j why s = t) ∧
        ((s.job j).probeRun = 2 → probeRejected j why s = holdJobFor j .supplySuspect t))) ∧
  (∀ (j : SlotNo) (why : HoldReason) (s : State),
    ((s.job j).state = .running ∨ (s.job j).state = .draining →
      ∃ t, t.job j = { s.job j with state := .held, hold := some why, stall := StallFlags.clear } ∧
        (∀ k, k ≠ j → t.job k = s.job k) ∧ t = { s with port := t.port, jobs := t.jobs, host := t.host } ∧
        holdJobFor j why s = withdrawLoads j (logEntry .jobHeld j.val (byte why.code) t)) ∧
    ((s.job j).state ≠ .running → (s.job j).state ≠ .draining → holdJobFor j why s = s)) ∧
  ∀ (j : SlotNo) (s : State), withdrawLoads j s =
    allLanes.foldl (fun t n => if ((t.lane n).disc.map (·.slot)) = some j then withdrawLoad n t else t) s

/-- SPEED_ACK and SPEED_REFUSED (R68, R69, R75 to R77): an answer that names the rate of the outstanding request, in NEGOTIATING or
WRITING, is taken by what the request was for; any other is stray. In NEGOTIATING the rate accepted becomes the current one, LANE_SPEED is
logged, as at a pace change, the lane enters WRITING at position 0 and takes its first write pins, one page after another; then WRITE_OPEN
is sent with its wait. A rate refused asks for the next lower one; below the lowest a negotiation ends with NO_SPEED and a downshift with
LANE_PACE_FLOOR, whose g is the window gap count as it stands then (log 19, DEDUCED). An upshift refused asks for no other. The entries of
LANE_SPEED and LANE_PACE_FLOOR give the disc index one byte, a width of the model's own (log 59, PRESUMED). -/
def Obligations.SpeedAnswersTaken : Prop :=
  (∀ (n : LaneNo) (rate : BitVec 16) (s : State), (s.link n).up = true →
    (∀ q, (s.lane n).speedReq = some q → ((s.lane n).state = .negotiating ∨ (s.lane n).state = .writing) → q.rate = rate.toNat →
      exec (.speedAck n rate) s = .next (settle (acceptSpeed n q s)) ∧
      exec (.speedRefused n rate) s = .next (settle (refuseSpeed n q s)) ∧
      (∀ d, q.purpose = .negotiate → (s.lane n).state = .negotiating → (s.lane n).disc = some d →
        ∃ v w, v = { report (0x3000 + 128 * n.val) (laneBlock (v.lane n) true)
            ((logEntry .laneSpeed n.val (byte d.index.val ++ half 0 ++ half q.rate)
              (s.setLane n { s.lane n with speedReq := none, rate := some q.rate })).setLane n (v.lane n)) with
              signals := s.signals ++ [.stalls] } ∧
          (∀ m, m ≠ n → v.lane m = s.lane m) ∧
          v.lane n = { s.lane n with
            speedReq := none, rate := some q.rate, state := .writing, nextCopy := 0, nextSend := 0
            trail := lastEight ((s.lane n).trail ++ [(.writing, s.port.timeBase)]) } ∧
          w = takeWritePins n d.slot ([0, 1, 2].filter fun p => decide (p < pageCount (laneSectors s n))) v ∧
          ((w.lane n).state ≠ .writing → acceptSpeed n q s = w) ∧
          ((w.lane n).state = .writing → acceptSpeed n q s =
            setWaits n (fun x => { x with openAck := some w.port.timeBase }) (sendMsg n (.writeOpen (laneSectors s n)) w))) ∧
      (∀ d current, q.purpose ≠ .negotiate → (s.lane n).disc = some d → (s.lane n).rate = some current →
        acceptSpeed n q s = logEntry .laneSpeed n.val (byte d.index.val ++ half current ++ half q.rate)
          (report (0x3000 + 128 * n.val) (laneBlock ((acceptSpeed n q s).lane n) true) (s.setLane n ((acceptSpeed n q s).lane n)))) ∧
      (q.purpose = .downshift → (acceptSpeed n q s).lane n = { s.lane n with
        speedReq := none, rate := some q.rate, totals := { (s.lane n).totals with downshifts := satInc max16 (s.lane n).totals.downshifts }
        counters := { (s.lane n).counters with downshifts := (s.lane n).counters.downshifts.advance max16 }
        pace := { (s.lane n).pace with reviews := 0 } }) ∧
      (q.purpose = .upshift → (acceptSpeed n q s).lane n = { s.lane n with
        speedReq := none, rate := some q.rate, totals := { (s.lane n).totals with upshifts := satInc max16 (s.lane n).totals.upshifts }
        counters := { (s.lane n).counters with upshifts := (s.lane n).counters.upshifts.advance max16 }
        pace := { (s.lane n).pace with reviews := 0 } } ∧
        refuseSpeed n q s = s.setLane n { s.lane n with speedReq := none, pace := { (s.lane n).pace with reviews := 0 } }) ∧
      (∀ lower, q.purpose ≠ .upshift → highestBelow (s.lane n).offered q.rate = some lower →
        ((refuseSpeed n q s).lane n).speedReq = some ⟨lower, q.purpose, s.port.timeBase⟩ ∧
        (refuseSpeed n q s).link n = { s.link n with outbound := (s.link n).outbound ++ [.setSpeed lower] }) ∧
      (q.purpose = .negotiate → highestBelow (s.lane n).offered q.rate = none →
        refuseSpeed n q s = laneReject n .noSpeed 0 id (s.setLane n { s.lane n with speedReq := none })) ∧
      (∀ d current, q.purpose = .downshift → highestBelow (s.lane n).offered q.rate = none → (s.lane n).disc = some d →
        (s.lane n).rate = some current →
        refuseSpeed n q s = logEntry .lanePaceFloor n.val
          (byte d.index.val ++ half current ++ half (s.lane n).pace.windowGaps) (s.setLane n { s.lane n with speedReq := none }))) ∧
    (((s.lane n).speedReq.map (·.rate) ≠ some rate.toNat ∨ ((s.lane n).state ≠ .negotiating ∧ (s.lane n).state ≠ .writing)) →
      exec (.speedAck n rate) s = .next (settle (strayMessage n s)) ∧
      exec (.speedRefused n rate) s = .next (settle (strayMessage n s)))) ∧
  ∀ (n : LaneNo) (j : SlotNo) (page : Nat) (rest : List Nat) (s : State),
    (pinFinds s j page ≠ .failed →
      takeWritePins n j (page :: rest) s = takeWritePins n j rest (pinPage n .write j page s)) ∧
    (pinFinds s j page = .failed →
      takeWritePins n j (page :: rest) s = holdJobFor j .imageFetch (laneReject n .imageFetch 0 id s)) ∧
    takeWritePins n j [] s = s

/-- OPEN_ACK, CREDIT and GAP (R72; R69, R71 and R78 in part): the awaited OPEN_ACK ends its wait and stamps the write start; a CREDIT of 1
to 64 after it adds to the credits, holding at 65,535, and stops the starvation timer; in CLOSING it is taken without effect; a GAP in
WRITING after OPEN_ACK or in CLOSING advances the disc's total and the lane's counter, in WRITING the window's gaps too, and a total above
the job's maximum, where that is not 0, ends the disc with GAP_LIMIT. Any other is stray, a CREDIT outside 1 to 64 too (log 14, DEDUCED).
-/
def Obligations.WritingMessagesTaken : Prop :=
  (∀ (n : LaneNo) (count : BitVec 8) (s : State), (s.link n).up = true →
      ((s.lane n).state ≠ .writing ∨ (s.lane n).waits.openAck = none → exec (.openAck n) s = .next (strayMessage n s)) ∧
      (∀ d x, (s.lane n).state = .writing → (s.lane n).waits.openAck ≠ none → (s.lane n).disc = some d → s.disc d.index = some x →
        ∃ t, exec (.openAck n) s = .next t ∧
          t.disc d.index = some { x with startRate := (s.lane n).rate, writeStart := some (x.writeStart.getD s.port.timeBase) } ∧
          (∀ i, i ≠ d.index → t.disc i = s.disc i) ∧
          t.lane n = { s.lane n with waits := { (s.lane n).waits with
            openAck := none
            starvation := if (s.lane n).credits = 0 ∧ (s.lane n).nextSend < laneSectors s n then
              some ((s.lane n).waits.starvation.getD s.port.timeBase) else none } } ∧
          (∀ m, m ≠ n → t.lane m = s.lane m) ∧
          t = { s with port := t.port, roster := t.roster, lanes := t.lanes, host := t.host }) ∧
      ((count.toNat < 1 ∨ 64 < count.toNat ∨
          ((s.lane n).state ≠ .closing ∧ ((s.lane n).state ≠ .writing ∨ (s.lane n).waits.openAck ≠ none))) →
        exec (.credit n count) s = .next (strayMessage n s)) ∧
      (1 ≤ count.toNat → count.toNat ≤ 64 → (s.lane n).state = .closing → exec (.credit n count) s = .next s) ∧
      (1 ≤ count.toNat → count.toNat ≤ 64 → (s.lane n).state = .writing → (s.lane n).waits.openAck = none →
        exec (.credit n count) s = .next (s.setLane n { s.lane n with
          credits := min 65535 ((s.lane n).credits + count.toNat), waits := { (s.lane n).waits with starvation := none } }))) ∧
  ∀ (n : LaneNo) (s : State), (s.link n).up = true →
    let l := s.lane n
    let t := s.setLane n { l with
      totals := { l.totals with gaps := satInc max16 l.totals.gaps }
      counters := { l.counters with gaps := l.counters.gaps.advance max16 }
      pace := if l.state = .writing then { l.pace with windowGaps := satInc max16 l.pace.windowGaps } else l.pace }
    let taken := (l.state = .writing ∧ l.waits.openAck = none) ∨ l.state = .closing
    (¬ taken → exec (.gap n) s = .next (settle (strayMessage n s))) ∧
    (∀ r, taken → laneRecord s n = some r →
      (r.maxGaps = 0 ∨ satInc max16 l.totals.gaps ≤ r.maxGaps → exec (.gap n) s = .next (settle t)) ∧
      (r.maxGaps ≠ 0 → r.maxGaps < satInc max16 l.totals.gaps → exec (.gap n) s = .next (settle (laneReject n .gapLimit 0 id t))))

/-- CLOSED (R35, R78, R83): the awaited CLOSED sets the write totals and the write end and clears the write fault run; a disc without
verification is PASSED and its unload asked for, to the printer where its job prints and else to the output spindle (R80); any other is
verified from block 0. Otherwise stray. A lane that asks for its unload enters UNLOAD_WAIT with its UNLOAD queued at the next position, to
the printer or the output spindle for a PASSED disc and to the reject spindle for any other and for an orphan (R80). -/
def Obligations.ClosedEndsWriting : Prop :=
  (∀ (n : LaneNo) (s : State), (s.link n).up = true →
    ((s.lane n).state ≠ .closing ∨ (s.lane n).waits.closed = none → exec (.closed n) s = .next (settle (strayMessage n s))) ∧
    ∀ d r x, (s.lane n).state = .closing → (s.lane n).waits.closed ≠ none → (s.lane n).disc = some d → laneRecord s n = some r →
      s.disc d.index = some x →
      ∃ u, exec (.closed n) s = .next (settle u) ∧ (u.lane n).faultRun = 0 ∧
        u.disc d.index = some { x with
          totals := some (laneTotals (s.lane n)), writeEnd := some (x.writeEnd.getD s.port.timeBase)
          outcome := if r.verifyMode = .off then .passed else x.outcome } ∧
        (∀ i, i ≠ d.index → u.disc i = s.disc i) ∧
        (r.verifyMode = .off → (u.lane n).state = .unloadWait ∧ u.link n = s.link n ∧
          ∃ t, u.queued (requesterOf n) = some t ∧ t.kind = .unloadLane ∧ t.source = trayOf n ∧
            t.dest = if r.print then stationPrinter else stationOutput) ∧
        (r.verifyMode ≠ .off → (u.lane n).state = .verifying ∧ (u.lane n).verify.blockStart = 0 ∧
          (u.lane n).verify.blockCount = min 32 r.imageSectors ∧ (u.lane n).waits.readBlock = some s.port.timeBase ∧
          u.link n = { s.link n with outbound := (s.link n).outbound ++ [.read 0 (min 32 r.imageSectors)] } ∧
          u.transport = s.transport) ∧
        (∀ m, m ≠ n → u.lane m = s.lane m ∧ u.link m = s.link m)) ∧
  ∀ (n : LaneNo) (s : State),
    let l := s.lane n
    ∃ v dest, requestUnload n s = v ∧
      v.lane n = { l with
        state := .unloadWait
        trail := if l.state = .unloadWait then l.trail else lastEight (l.trail ++ [(.unloadWait, s.port.timeBase)]) } ∧
      (∀ m, m ≠ n → v.lane m = s.lane m) ∧
      v.queued (requesterOf n) = some ⟨.unloadLane, requesterOf n, trayOf n, dest, s.transport.positions, 0⟩ ∧
      (∀ r, r ≠ requesterOf n → v.queued r = s.queued r) ∧
      (l.disc = none → dest = stationReject) ∧
      (∀ d x, l.disc = some d → s.disc d.index = some x → dest =
        if x.outcome = .passed then
          (if (s.job d.slot).record.map (·.print) = some true then stationPrinter else stationOutput)
        else stationReject) ∧
      .select ∈ v.signals ∧
      v = { s with port := v.port, lanes := v.lanes, transport := v.transport, host := v.host, signals := v.signals }

/-- RDATA (R110; R109, R112, R118, R119): a sector of the outstanding block not yet received goes into the FIFO and counts as received;
RECOVERED adds a soft error and stops verification unless it is tolerated, UNREADABLE adds a hard one and stops it; the last sector of the
block ends the block. Any other RDATA is stray. A block that has been read queues for a compare unit, or leads to the next READ, and after
the last one the disc is PASSED with its unload asked for, or ends in a stop REJECTED: each decision sets the verify counts and the verify
end, and a stop the rest of a rejection, with its ABORT. The last block's sectors of a READABILITY disc stay in the FIFO (log 68, DESIGN
CHOICE). -/
def Obligations.RdataTaken : Prop :=
  (∀ (n : LaneNo) (sector : BitVec 32) (status : SectorStatus) (bs : List Byte) (s : State), (s.link n).up = true → bs.length = 2048 →
    let v := (s.lane n).verify
    let awaited := (s.lane n).state = .verifying ∧ (s.lane n).waits.readBlock ≠ none ∧ v.blockStart ≤ sector.toNat ∧
      sector.toNat < v.blockStart + v.blockCount ∧ sector.toNat ∉ v.received
    let took := fun (soft hard : Nat) => s.setLane n { s.lane n with
      fifo := (s.lane n).fifo ++ [⟨sector.toNat, bs⟩]
      verify := { v with received := v.received ++ [sector.toNat], soft := soft, hard := hard } }
    let goesOn := fun (r : JobRecord) (d : DiscRef) (t : State) =>
      if v.received.length + 1 = v.blockCount then blockRead n r d t else t
    (¬ awaited → exec (.rdata n sector status bs) s = .next (settle (strayMessage n s))) ∧
    (∀ d r, awaited → (s.lane n).disc = some d → laneRecord s n = some r →
      (status = .ok → exec (.rdata n sector status bs) s = .next (settle (goesOn r d (took v.soft v.hard)))) ∧
      (status = .recovered →
        exec (.rdata n sector status bs) s = .next (settle (
          if r.tolerate.getLsbD 2 then goesOn r d (took (satInc max16 v.soft) v.hard)
          else verifyStop n .verifySoft (took (satInc max16 v.soft) v.hard)))) ∧
      (status = .unreadable →
        exec (.rdata n sector status bs) s = .next (settle (verifyStop n .verifyHard (took v.soft (satInc max16 v.hard))))))) ∧
  (∀ (n : LaneNo) (r : JobRecord) (d : DiscRef) (s : State),
    let l := s.lane n
    let read : Lane := { l with waits := { l.waits with readBlock := none } }
    (r.verifyMode ≠ .compare → blockRead n r d s = nextBlock n r.imageSectors (s.setLane n read)) ∧
    (r.verifyMode = .compare →
      ∃ v, blockRead n r d s = v ∧ v.lane n = { read with verify := { l.verify with stage := .queued } } ∧
        (∀ m, m ≠ n → v.lane m = s.lane m) ∧
        v.verify = { s.verify with
          queue := s.verify.queue ++ [⟨n, .disc, l.verify.blockStart, l.verify.blockCount, d.slot,
            (s.disc d.index).bind (·.serial), s.verify.arrivals⟩]
          arrivals := satInc max64 s.verify.arrivals } ∧
        v = { s with lanes := v.lanes, verify := v.verify, signals := s.signals ++ [.grant] })) ∧
  ∀ (n : LaneNo) (s : State), (s.link n).up = true →
    let l := s.lane n
    (∀ sectors : Nat,
      (sectors ≤ l.verify.blockStart + 32 → nextBlock n sectors s = verifyPass n s) ∧
      (l.verify.blockStart + 32 < sectors →
        let start := l.verify.blockStart + 32
        let count := min 32 (sectors - start)
        nextBlock n sectors s = (s.setLink n { s.link n with outbound := (s.link n).outbound ++ [.read start count] }).setLane n
          { l with
            fifo := [], waits := { l.waits with readBlock := some s.port.timeBase }
            verify := { l.verify with blockStart := start, blockCount := count, received := [] } })) ∧
    ∀ (d : DiscRef) (x : DiscRecord), l.disc = some d → s.disc d.index = some x →
      let counts := some ⟨l.verify.hard, l.verify.miscompare, l.verify.soft⟩
      let ended := some (x.verifyEnd.getD s.port.timeBase)
      (∃ v w, verifyPass n s = requestUnload n w ∧ verifyPass n s = v ∧
        w.disc d.index = some { x with outcome := .passed, verify := counts, verifyEnd := ended } ∧
        (∀ i, i ≠ d.index → w.disc i = s.disc i) ∧ w = { s with port := w.port, roster := w.roster, host := w.host } ∧
        v.roster = w.roster ∧ v.jobs = s.jobs ∧ v.links = s.links ∧ (v.lane n).fifo = l.fifo) ∧
      (∀ why : RejectReason, l.state = .verifying → l.inTray = true → x.outcome = .pending → x.slot = BitVec.ofNat 8 d.slot.val →
        l.verify.stage = .off → l.verify.unit = none → why ≠ .writeFault →
        ∃ v, verifyStop n why s = v ∧
          v.disc d.index = some { x with
            outcome := .rejected, reason := some why, verify := counts, verifyEnd := ended
            totals := if x.writeStart.isSome ∧ x.writeEnd = none then some (laneTotals l) else x.totals } ∧
          (∀ i, i ≠ d.index → v.disc i = s.disc i) ∧
          (v.job d.slot).rejected = satInc max32 (s.job d.slot).rejected ∧ (v.job d.slot).inFlight = (s.job d.slot).inFlight - 1 ∧
          (v.lane n).state = .unloadWait ∧ (v.lane n).disc = some d ∧ (v.lane n).fifo = [] ∧ (v.lane n).waits.readBlock = none ∧
          v.link n = { s.link n with outbound := (s.link n).outbound ++ [.abort] } ∧
          ∃ t, v.queued (requesterOf n) = some t ∧ t.kind = .unloadLane ∧ t.source = trayOf n ∧ t.dest = stationReject)

/-- TRAY_STATE (R65, R66, R80, R87, R101, R103 to R106): with no tray command outstanding it is stray; JAMMED and a value that is not the
one asked for fail the command; the CLOSED of a load with a PENDING disc present begins the probe with its wait of 10 s, and with a disc
REJECTED meanwhile its unload to the reject spindle; a disc that a FAULT rejected in the tray counts in discs rejected at the CLOSED
(R101); the CLOSED of an unload ends in the rest state. The answer to a command left from before a RUN changes nothing, or lets the
inventory of the lane begin (log 10, DEDUCED). That an OPEN for a load withdrawn meanwhile leaves the map as it is, a disc present or not,
is log 63 (DESIGN CHOICE), the counting of a disc rejected by a FAULT where the exchange ends without its CLOSED log 15 (DEDUCED). A tray
command that fails leaves the lane FAULTED with its entry: a load's disc is REJECTED with DRIVE_FAULT, a withdrawn load's lane holds none,
as its block shows (R64, R104), an unload's task is given up. A query answered unloads the disc held by the record, or an orphan that is
present, or else leads to the rest state. A load withdrawn above the tray closes it first; a reservation that ends goes to the rest state,
or with a DRIVE_FAULT mark to FAULTED and, its link UP, to recovery, where no tray command is unanswered (log 55, DESIGN CHOICE). A load's
withdrawal does not concern a lane that has gone on to another record (log 35, DEDUCED); what a query's answer finds is judged by the
record and the bit the lane keeps for its tray (log 27, DEDUCED). -/
def Obligations.TrayStateTaken : Prop :=
  (∀ (n : LaneNo) (tray : TrayValue) (present : Bool) (s : State), (s.link n).up = true →
    ((s.lane n).waits.tray = none → exec (.trayState n tray present) s = .next (settle (strayMessage n s))) ∧
    ∀ w, (s.lane n).waits.tray = some w →
      let s1 := s.setLane n { s.lane n with waits := { (s.lane n).waits with tray := none } }
      let takes := fun t => exec (.trayState n tray present) s = .next (settle t)
      ((∀ f, w.purpose ≠ .stale f) → tray = .jammed → takes (trayFailed n w .trayJammed s1)) ∧
      (tray = .closed → w.purpose = .loadOpen ∨ w.purpose = .unloadOpen ∨ (∃ f, w.purpose = .withdrawOpen f) →
        takes (trayFailed n w .trayStateWrong s1)) ∧
      (tray = .opened → w.purpose = .loadClose ∨ w.purpose = .unloadClose ∨ (∃ f, w.purpose = .withdrawClose f) →
        takes (trayFailed n w .trayStateWrong s1)) ∧
      (tray = .opened → w.purpose = .loadOpen ∨ w.purpose = .unloadOpen → takes (trayOffered (trayOf n) present s1)) ∧
      (∀ f, tray = .opened → w.purpose = .withdrawOpen f → takes (sendTray n .close (.withdrawClose f) s1)) ∧
      (tray = .closed → w.purpose = .unloadClose → takes (laneRest n s1)) ∧
      (∀ f, tray = .closed → w.purpose = .withdrawClose f → takes (endWithdrawn n f s1)) ∧
      (tray ≠ .jammed → w.purpose = .recovery ∨ w.purpose = .inventory → takes (queryAnswered n present s1)) ∧
      (∀ f, w.purpose = .stale f → takes (if f then beginInventory s1 n else s1)) ∧
      (tray = .closed → w.purpose = .loadClose → present = false →
        takes (faultLane n .trayEmpty (some .close) (laneReject n .driveFault 0 id (countUncounted n s1)))) ∧
      (∀ d r, tray = .closed → w.purpose = .loadClose → present = true → (s.lane n).disc = some d →
        s.disc d.index = some r → r.outcome = .pending →
        ∃ u, takes u ∧ (u.lane n).state = .probing ∧ (u.lane n).waits.media = some s.port.timeBase ∧
          (u.lane n).waits.tray = none ∧ u.link n = { s.link n with outbound := (s.link n).outbound ++ [.probe] } ∧
          (∀ m, m ≠ n → u.lane m = s.lane m ∧ u.link m = s.link m) ∧ u.roster = s.roster) ∧
      (∀ d r, tray = .closed → w.purpose = .loadClose → present = true → (s.lane n).disc = some d →
        s.disc d.index = some r → r.outcome = .rejected →
        ∃ u, takes u ∧ (u.lane n).state = .unloadWait ∧ (u.lane n).uncounted = none ∧
          (u.lane n).counters.discsRejected = (if (s.lane n).uncounted = none then (s.lane n).counters.discsRejected
            else (s.lane n).counters.discsRejected.advance max16) ∧
          (∃ t, u.queued (requesterOf n) = some t ∧ t.kind = .unloadLane ∧ t.source = trayOf n ∧ t.dest = stationReject) ∧
          (∀ m, m ≠ n → u.lane m = s.lane m) ∧ u.links = s.links ∧ u.roster = s.roster)) ∧
  ∀ (n : LaneNo) (s : State),
    ((s.lane n).uncounted = none → countUncounted n s = s) ∧
    ((s.lane n).uncounted ≠ none → countUncounted n s = s.setLane n { s.lane n with
      uncounted := none
      counters := { (s.lane n).counters with discsRejected := (s.lane n).counters.discsRejected.advance max16 } }) ∧
    (∀ (w : TrayWait) (cause : LaneCause),
      let faulted := faultLane n cause (some w.command)
      (w.purpose = .loadOpen ∨ w.purpose = .loadClose →
        trayFailed n w cause s = faulted (laneReject n .driveFault 0 id (countUncounted n s))) ∧
      (∀ f, w.purpose = .withdrawOpen f ∨ w.purpose = .withdrawClose f → trayFailed n w cause s =
        faultEmpty n cause (some w.command) s) ∧
      (w.purpose = .unloadOpen ∨ w.purpose = .unloadClose → trayFailed n w cause s = faulted (tellTrayLost n s)) ∧
      (w.purpose = .recovery ∨ w.purpose = .inventory → trayFailed n w cause s = faultLane n cause (some .query) s) ∧
      (∀ f, w.purpose = .stale f → trayFailed n w cause s = if f then beginInventory s n else s)) ∧
    (let t := giveUpUnload n s
     (∀ q, t.queued (requesterOf n) = some q → q.kind = .unloadLane →
       ∃ v, tellTrayLost n s = v ∧ v.queued (requesterOf n) = none ∧ (∀ r, r ≠ requesterOf n → v.queued r = t.queued r) ∧
         v.signals = t.signals ++ [.stopTest] ∧
         v = { t with port := v.port, transport := v.transport, host := v.host, signals := v.signals }) ∧
     ((∀ q, t.queued (requesterOf n) = some q → q.kind ≠ .unloadLane) → tellTrayLost n s = t)) ∧
    (∀ present : Bool,
      let holds := (s.lane n).disc ≠ none ∧ (s.lane n).inTray = true
      (holds → queryAnswered n present s = requestUnload n s) ∧
      (¬ holds → ∃ v, (∀ k, k ≠ trayOf n → v.entry k = s.entry k) ∧ v.transport = { s.transport with map := v.transport.map } ∧
        (∀ m, m ≠ n → v.lane m = s.lane m) ∧
        v = { s with port := v.port, lanes := v.lanes, transport := v.transport, host := v.host } ∧
        v.entry (trayOf n) = { s.entry (trayOf n) with occupancy := if present then .occupied else .empty, disc := none } ∧
        (present = true → queryAnswered n present s = requestUnload n v ∧
          v.lane n = { s.lane n with disc := none, refuse := none, orphan := true, inTray := true }) ∧
        (present = false → queryAnswered n present s = laneRest n v ∧ v.lane n = s.lane n))) ∧
    (∀ (i : DiscNo) (f : Bool),
      ((∀ d, (s.lane n).disc = some d → d.index ≠ i) → laneWithdrawn n i f s = s) ∧
      ∀ d, (s.lane n).disc = some d → d.index = i →
        ((s.lane n).state = .faulted → laneWithdrawn n i f s = s.setLane n { s.lane n with disc := none, refuse := none }) ∧
        ((s.lane n).state = .loadWait → laneWithdrawn n i f s = endReservation n s) ∧
        (∀ w, (s.lane n).state = .trayLoad → (s.lane n).waits.tray = some w → laneWithdrawn n i f s = s.setLane n
          { s.lane n with waits := { (s.lane n).waits with tray := some { w with purpose := .withdrawOpen f } } }) ∧
        ((s.lane n).state = .trayLoad → (s.lane n).waits.tray = none → (s.link n).up = true → laneWithdrawn n i f s =
          (s.setLink n { s.link n with outbound := (s.link n).outbound ++ [.tray .close] }).setLane n
            { s.lane n with waits := { (s.lane n).waits with tray := some ⟨.close, .withdrawClose f, s.port.timeBase⟩ } }) ∧
        ((s.lane n).state ∈ [.unknown, .offline, .idle, .probing, .negotiating, .writing, .closing, .verifying, .unloadWait,
            .trayUnload] → laneWithdrawn n i f s = s)) ∧
    (let held : Lane := { s.lane n with disc := none, inTray := false, orphan := false, refuse := none, restPending := false }
     let faulted := faultLane n .linkDown none (s.setLane n held)
     ((s.lane n).refuse ≠ some .driveFault → endReservation n s = laneRest n s) ∧
     ((s.lane n).refuse = some .driveFault →
       ((s.link n).up = false ∨ (s.lane n).waits.tray ≠ none → endReservation n s = faulted) ∧
       ((s.link n).up = true → (s.lane n).waits.tray = none → endReservation n s =
         (faulted.setLink n { s.link n with outbound := (s.link n).outbound ++ [.tray .query] }).setLane n { faulted.lane n with
           waits := { (s.lane n).waits with tray := some ⟨.query, .recovery, s.port.timeBase⟩ } })) ∧
     endWithdrawn n false s = laneRest n s ∧
     ∃ v, endWithdrawn n true s = v ∧ v.lane n = { held with
         state := .faulted
         trail := if held.state = .faulted then held.trail else lastEight (held.trail ++ [(.faulted, s.port.timeBase)]) } ∧
       (∀ m, m ≠ n → v.lane m = s.lane m) ∧ v = { s with port := v.port, lanes := v.lanes, host := v.host, signals := v.signals })

/-- FAULT and MALFORMED_MESSAGE (R98, R100, R101): a FAULT ends the probe or the disc by the lane's state, and is stray in the others; a
malformed message is stray in every state. In TRAY_LOAD a PENDING disc is decided REJECTED, to be counted at the CLOSED answer where it
stands in the tray (R101); a disc REJECTED already makes the FAULT taken, without effect (log 60, DESIGN CHOICE). A stray message
advances the lane's count, which holds at 65,535, and the block is written; nothing else changes. A DOWN port delivers nothing. -/
def Obligations.FaultAndStrayTaken : Prop :=
  ∀ (n : LaneNo) (code : BitVec 16) (s : State),
    ((s.link n).up = false → exec (.malformedMessage n) s = .next s ∧ exec (.fault n code) s = .next (settle s)) ∧
    ((s.link n).up = true →
      (∃ u, exec (.malformedMessage n) s = .next u ∧
        ((s.lane n).stray ≤ 65535 → u.lane n = { s.lane n with stray := min 65535 ((s.lane n).stray + 1) }) ∧
        (∀ m, m ≠ n → u.lane m = s.lane m) ∧
        u = report (0x3000 + 128 * n.val) (laneBlock (u.lane n) true) (s.setLane n (u.lane n)) ∧ strayMessage n s = u) ∧
      ((s.lane n).state = .probing → exec (.fault n code) s = .next (settle (probeFail n .driveFault code.toNat s))) ∧
      ((s.lane n).state ∈ [.negotiating, .verifying] →
        exec (.fault n code) s = .next (settle (laneReject n .driveFault code.toNat id s))) ∧
      (∀ d x, (s.lane n).state = .trayLoad → (s.lane n).disc = some d → s.disc d.index = some x →
        (x.outcome = .pending → exec (.fault n code) s = .next (settle (laneReject n .driveFault code.toNat id (s.setLane n
          { s.lane n with uncounted := if (s.lane n).inTray then some d.index else none })))) ∧
        (x.outcome ≠ .pending → exec (.fault n code) s = .next (settle s))) ∧
      ((s.lane n).state ∈ [.writing, .closing] →
        exec (.fault n code) s = .next (settle (laneReject n .writeFault code.toNat id s))) ∧
      ((s.lane n).state ∈ [.unknown, .offline, .idle, .loadWait, .unloadWait, .trayUnload, .faulted] →
        exec (.fault n code) s = .next (settle (strayMessage n s))))

/-- The lanes' timeouts (R67 to R69, R71, R75, R76, R78, R102, R106, R111): each acts at the moment its limit is reached, while the wait
it watches is open in its lane state. The time base goes to that moment, or stands where it is later (log 7, DESIGN CHOICE); a timeout
whose wait is not open changes nothing (log 4, DESIGN CHOICE). -/
def Obligations.LaneTimeoutsTaken : Prop :=
  ∀ (n : LaneNo) (s : State),
    (∀ t, (s.lane n).state = .probing → (s.lane n).waits.media = some t →
      exec (.mediaTimeout n) s = .next (settle (probeFail n .driveFault 0 ((s.advanceTo (t + 10000000)).setLane n
        { s.lane n with waits := { (s.lane n).waits with media := none } })))) ∧
    (∀ q, (s.lane n).speedReq = some q →
      exec (.speedTimeout n) s = .next (settle (refuseSpeed n q (s.advanceTo (q.sentAt + 2000000))))) ∧
    (∀ t, (s.lane n).state = .writing → (s.lane n).waits.openAck = some t →
      exec (.openTimeout n) s = .next (settle (laneReject n .driveFault 0 id (s.advanceTo (t + 2000000))))) ∧
    (∀ t, (s.lane n).state = .writing → (s.lane n).waits.starvation = some t →
      exec (.creditStarvation n) s = .next (settle (laneReject n .writeStall 0 id (s.advanceTo (t + 30000000))))) ∧
    (∀ t, (s.lane n).state = .closing → (s.lane n).waits.closed = some t →
      exec (.closedTimeout n) s = .next (settle (laneReject n .writeFault 0 id (s.advanceTo (t + 180000000))))) ∧
    (∀ t, (s.lane n).state = .verifying → (s.lane n).waits.readBlock = some t →
      exec (.readBlockTimeout n) s = .next (settle (laneReject n .driveFault 0 id (s.advanceTo (t + 30000000))))) ∧
    (∀ w, (s.lane n).waits.tray = some w →
      exec (.trayTimeout n) s = .next (settle (trayFailed n w .trayTimeout ((s.advanceTo (w.sentAt + 8000000)).setLane n
        { s.lane n with waits := { (s.lane n).waits with tray := none } })))) ∧
    (Settled s →
      ((s.lane n).state ≠ .probing ∨ (s.lane n).waits.media = none → exec (.mediaTimeout n) s = .next s) ∧
      ((s.lane n).speedReq = none → exec (.speedTimeout n) s = .next s) ∧
      ((s.lane n).state ≠ .writing ∨ (s.lane n).waits.openAck = none → exec (.openTimeout n) s = .next s) ∧
      ((s.lane n).state ≠ .writing ∨ (s.lane n).waits.starvation = none → exec (.creditStarvation n) s = .next s) ∧
      ((s.lane n).state ≠ .closing ∨ (s.lane n).waits.closed = none → exec (.closedTimeout n) s = .next s) ∧
      ((s.lane n).state ≠ .verifying ∨ (s.lane n).waits.readBlock = none → exec (.readBlockTimeout n) s = .next s) ∧
      ((s.lane n).waits.tray = none → exec (.trayTimeout n) s = .next s))

/-- A PENDING disc decided REJECTED while it stands in its lane's tray (R14, R35, R79, R80, R83), in PROBING, NEGOTIATING, WRITING,
CLOSING and VERIFYING, and in TRAY_LOAD: the record with its reason, its write totals after the write start and its verify counts in
VERIFYING; the counters of its job and of the lane used; the write pins given up, the lane's FIFO, credits, request and waits but the
tray's; and the write fault run, whose third logs LANE_DISABLED, with the lane as subject and WRITE_FAULT in its detail, after the block
shows the lane not enabled. Outside TRAY_LOAD the drive is sent ABORT and the unload to the reject spindle is asked for; in TRAY_LOAD both
wait for the tray's exchange, and so does the lane's count of one that a FAULT rejects there (log 15, DEDUCED). A run of 3 acts as at the
third (log 58, DESIGN CHOICE). The lane holds no compare unit and waits for none: what VERIFYING gives back of one is R120's. The decision
itself (R14, R31, R81) is one for every block: a PENDING or PASSED record is decided, counted for its job and for the lane used, logged
and its job tested; any other stands. -/
def Obligations.RejectionEndsDisc : Prop :=
  (∀ (n : LaneNo) (why : RejectReason) (d : DiscRef) (x : DiscRecord) (s : State), (s.link n).up = true →
    (s.lane n).state ∈ [.trayLoad, .probing, .negotiating, .writing, .closing, .verifying] → (s.lane n).disc = some d →
    (s.lane n).inTray = true → s.disc d.index = some x → x.outcome = .pending → x.slot = BitVec.ofNat 8 d.slot.val →
    (s.lane n).verify.stage = .off → (s.lane n).verify.unit = none →
    let l := s.lane n
    ∃ u, laneReject n why 0 id s = u ∧
      u.disc d.index = some { x with
        outcome := .rejected, reason := some why
        totals := if x.writeStart.isSome ∧ x.writeEnd = none then
          some ⟨l.rate.getD 0, l.totals.gaps, l.totals.downshifts, l.totals.upshifts⟩ else x.totals
        verify := if l.state = .verifying then some ⟨l.verify.hard, l.verify.miscompare, l.verify.soft⟩ else x.verify } ∧
      (∀ i, i ≠ d.index → u.disc i = s.disc i) ∧
      (u.job d.slot).rejected = satInc max32 (s.job d.slot).rejected ∧ (u.job d.slot).inFlight = (s.job d.slot).inFlight - 1 ∧
      (∀ j, j ≠ d.slot → u.job j = s.job j) ∧
      (u.lane n).disc = some d ∧ (u.lane n).credits = 0 ∧ (u.lane n).fifo = [] ∧ (u.lane n).speedReq = none ∧
      (u.lane n).waits = { Waits.none with tray := l.waits.tray } ∧ (∀ p, p ∈ (u.lane n).pins → p.kind ≠ .write) ∧
      (∀ m, m ≠ n → u.link m = s.link m) ∧
      (u.lane n).faultRun = (if why = .writeFault then min 3 (l.faultRun + 1) else l.faultRun) ∧
      (u.lane n).enabled = (if why = .writeFault ∧ 2 ≤ l.faultRun then false else l.enabled) ∧
      (x.laneUsed = BitVec.ofNat 8 n.val → x.location = .lane n → l.uncounted ≠ some d.index →
        (u.lane n).counters = { l.counters with discsRejected := l.counters.discsRejected.advance max16 } ∧
        ∀ m, m ≠ n → u.lane m = s.lane m) ∧
      (l.state = .trayLoad → (u.lane n).state = .trayLoad ∧ u.link n = s.link n ∧ u.transport = s.transport) ∧
      (l.state ≠ .trayLoad → (u.lane n).state = .unloadWait ∧
        u.link n = { s.link n with outbound := (s.link n).outbound ++ [.abort] } ∧
        u.queued (requesterOf n) =
          some ⟨.unloadLane, requesterOf n, trayOf n, stationReject, s.transport.positions, 0⟩)) ∧
  (∀ (n : LaneNo) (s : State),
    let run := min 3 ((s.lane n).faultRun + 1)
    let l := { s.lane n with faultRun := run, enabled := if run = 3 then false else (s.lane n).enabled }
    let u := report (0x3000 + 128 * n.val) (laneBlock l (s.link n).up) (s.setLane n l)
    countWriteFault n s = if run = 3 then logEntry .laneDisabled n.val (byte RejectReason.writeFault.code) u else u) ∧
  (∀ (n : LaneNo) (why : RejectReason) (code : Nat) (f : DiscRecord → DiscRecord) (d : DiscRef) (s : State), (s.lane n).disc = some d →
    ∃ g t, t = decideRejected d.index why code g (endEarly n s) ∧
      let u := if why = .writeFault then countWriteFault n t else t
      ((s.lane n).inTray = false → laneReject n why code f s = { u with signals := u.signals ++ [.armRejected] }) ∧
      ((s.lane n).inTray = true → (s.lane n).state = .trayLoad → laneReject n why code f s = u) ∧
      ((s.lane n).inTray = true → (s.lane n).state ≠ .trayLoad → laneReject n why code f s = requestUnload n u)) ∧
  ∀ (i : DiscNo) (why : RejectReason) (code : Nat) (f : DiscRecord → DiscRecord) (s : State),
    (s.disc i = none ∨ (∃ x, s.disc i = some x ∧ x.outcome ≠ .pending ∧ x.outcome ≠ .passed) → decideRejected i why code f s = s) ∧
    ∀ (j : SlotNo) (x : DiscRecord), s.disc i = some x → x.outcome = .pending ∨ x.outcome = .passed → x.slot = BitVec.ofNat 8 j.val →
      ∃ v, decideRejected i why code f s = testCounts j (logEntry .discRejected i.val (byte why.code ++ half code) v) ∧
        v.disc i = some { f x with outcome := .rejected, reason := some why } ∧ (∀ k, k ≠ i → v.disc k = s.disc k) ∧
        v.job j = { s.job j with rejected := satInc max32 (s.job j).rejected, inFlight := (s.job j).inFlight - 1 } ∧
        (∀ k, k ≠ j → v.job k = s.job k) ∧
        (∀ n : LaneNo, x.laneUsed = BitVec.ofNat 8 n.val → (∀ m, m ≠ n → v.lane m = s.lane m) ∧
          let counts := (x.outcome = .passed ∨ ∃ m, x.location = .lane m) ∧ (s.lane n).uncounted ≠ some i
          (counts → v.lane n = { s.lane n with counters := { (s.lane n).counters with
            discsRejected := (s.lane n).counters.discsRejected.advance max16 } }) ∧
          (¬ counts → v.lane n = s.lane n)) ∧
        v = { s with port := v.port, jobs := v.jobs, roster := v.roster, lanes := v.lanes, host := v.host }

/-- SECTOR_COPY and DATA (R45, R70, R71, R74, R78): a writing lane copies its next sector, with the job's substitutions made, from a
RESIDENT page it has pinned into a FIFO of 32 places; with the last sector of a page or of the image it moves past the page, giving up
the page's write pin and taking that of the page three after it, where there is one. It sends its oldest sector on a credit, after OPEN_ACK;
the 1,024th brings a pace review, and the last of the image CLOSE, with its wait, after the review where both come. Else only these
change. A lane that is not WRITING, has no RESIDENT page pinned for the sector, no place in the FIFO or no sector left copies nothing;
one that is not WRITING, still waits for OPEN_ACK, has no sector or no credit, or whose link is DOWN sends nothing. The copy is the frame's
sector with every entry of the list that names it applied in list order: a FIXED entry's first length bytes, a SERIAL entry's decimal
digits, the most significant first. -/
def Obligations.SectorsCopiedAndSent : Prop :=
  (∀ (n : LaneNo) (s : State),
    (∀ d f, (s.lane n).disc = some d → writeFrame s n ((s.lane n).nextCopy / 64) = some f → (s.lane n).state = .writing →
      (s.lane n).fifo.length < 32 → (s.lane n).nextCopy + 1 < laneSectors s n → (s.lane n).nextCopy % 64 ≠ 63 →
      exec (.sectorCopy n) s = .next (settle (s.setLane n { s.lane n with
        nextCopy := (s.lane n).nextCopy + 1
        fifo := (s.lane n).fifo ++ [⟨(s.lane n).nextCopy, composeSector (jobSubsts s d.slot) (discSerial s d.index)
          (s.lane n).nextCopy (Memory.readBytes s.dram (131072 * f.val + 2048 * ((s.lane n).nextCopy % 64)) 2048)⟩] }))) ∧
    (∀ d f, (s.lane n).disc = some d → writeFrame s n ((s.lane n).nextCopy / 64) = some f → (s.lane n).state = .writing →
      (s.lane n).fifo.length < 32 → (s.lane n).nextCopy < laneSectors s n →
      (s.lane n).nextCopy % 64 = 63 ∨ (s.lane n).nextCopy + 1 = laneSectors s n →
      let page := (s.lane n).nextCopy / 64
      let s1 := unpinWrite n page (s.setLane n { s.lane n with
        nextCopy := (s.lane n).nextCopy + 1
        fifo := (s.lane n).fifo ++ [⟨(s.lane n).nextCopy, composeSector (jobSubsts s d.slot) (discSerial s d.index)
          (s.lane n).nextCopy (Memory.readBytes s.dram (131072 * f.val + 2048 * ((s.lane n).nextCopy % 64)) 2048)⟩] })
      (∀ p, p ∈ (s1.lane n).pins ↔ p ∈ (s.lane n).pins ∧ ¬ (p.kind = .write ∧ p.page = page)) ∧
      (64 * (page + 3) < laneSectors s n →
        exec (.sectorCopy n) s = .next (settle (takeWritePins n d.slot [page + 3] s1))) ∧
      (laneSectors s n ≤ 64 * (page + 3) → exec (.sectorCopy n) s = .next (settle s1))) ∧
    ((s.lane n).state ≠ .writing ∨ 32 ≤ (s.lane n).fifo.length ∨ laneSectors s n ≤ (s.lane n).nextCopy ∨
        (s.lane n).disc = none ∨ writeFrame s n ((s.lane n).nextCopy / 64) = none →
      exec (.sectorCopy n) s = .next (settle s)) ∧
    (∀ x rest r, (s.lane n).fifo = x :: rest → laneRecord s n = some r → (s.lane n).state = .writing →
      (s.lane n).waits.openAck = none → 0 < (s.lane n).credits → (s.link n).up = true → (s.lane n).pace.toward + 1 ≠ 1024 →
      ∃ u, exec (.data n) s = .next (settle u) ∧
        ((s.lane n).nextSend + 1 < r.imageSectors → u = (s.setLink n { s.link n with
            outbound := (s.link n).outbound ++ [.data x.sector x.bytes] }).setLane n { s.lane n with
          fifo := rest, credits := (s.lane n).credits - 1, nextSend := (s.lane n).nextSend + 1
          counters := { (s.lane n).counters with sectorsWritten := (s.lane n).counters.sectorsWritten.advance max32 }
          pace := { (s.lane n).pace with toward := (s.lane n).pace.toward + 1 }
          waits := { (s.lane n).waits with starvation :=
            if (s.lane n).credits = 1 then some ((s.lane n).waits.starvation.getD s.port.timeBase) else none } }) ∧
        (r.imageSectors ≤ (s.lane n).nextSend + 1 → u = sendClose n ((s.setLink n { s.link n with
            outbound := (s.link n).outbound ++ [.data x.sector x.bytes] }).setLane n { s.lane n with
          fifo := rest, credits := (s.lane n).credits - 1, nextSend := (s.lane n).nextSend + 1
          counters := { (s.lane n).counters with sectorsWritten := (s.lane n).counters.sectorsWritten.advance max32 }
          pace := { (s.lane n).pace with toward := (s.lane n).pace.toward + 1 }
          waits := { (s.lane n).waits with starvation := none } }))) ∧
    (∀ x rest r, (s.lane n).fifo = x :: rest → laneRecord s n = some r → (s.lane n).state = .writing →
      (s.lane n).waits.openAck = none → 0 < (s.lane n).credits → (s.link n).up = true → (s.lane n).pace.toward + 1 = 1024 →
      (s.lane n).nextSend + 1 < r.imageSectors →
      exec (.data n) s = .next (settle (paceReview n r ((s.setLink n { s.link n with
          outbound := (s.link n).outbound ++ [.data x.sector x.bytes] }).setLane n { s.lane n with
        fifo := rest, credits := (s.lane n).credits - 1, nextSend := (s.lane n).nextSend + 1
        counters := { (s.lane n).counters with sectorsWritten := (s.lane n).counters.sectorsWritten.advance max32 }
        pace := { (s.lane n).pace with toward := 0 }
        waits := { (s.lane n).waits with starvation :=
          if (s.lane n).credits = 1 then some ((s.lane n).waits.starvation.getD s.port.timeBase) else none } })))) ∧
    (∀ x rest r, (s.lane n).fifo = x :: rest → laneRecord s n = some r → (s.lane n).state = .writing →
      (s.lane n).waits.openAck = none → 0 < (s.lane n).credits → (s.link n).up = true → (s.lane n).pace.toward + 1 = 1024 →
      r.imageSectors ≤ (s.lane n).nextSend + 1 →
      exec (.data n) s = .next (settle (sendClose n (paceReview n r ((s.setLink n { s.link n with
          outbound := (s.link n).outbound ++ [.data x.sector x.bytes] }).setLane n { s.lane n with
        fifo := rest, credits := (s.lane n).credits - 1, nextSend := (s.lane n).nextSend + 1
        counters := { (s.lane n).counters with sectorsWritten := (s.lane n).counters.sectorsWritten.advance max32 }
        pace := { (s.lane n).pace with toward := 0 }
        waits := { (s.lane n).waits with starvation := none } }))))) ∧
    ((s.lane n).state = .writing → (s.link n).up = true →
      let t := sendClose n s
      t.lane n = { s.lane n with
        state := .closing, speedReq := none, trail := lastEight ((s.lane n).trail ++ [(.closing, s.port.timeBase)])
        waits := { (s.lane n).waits with closed := some s.port.timeBase, starvation := none } } ∧
      t.link n = { s.link n with outbound := (s.link n).outbound ++ [.close] } ∧
      (∀ m, m ≠ n → t.lane m = s.lane m ∧ t.link m = s.link m) ∧
      t = { s with port := t.port, lanes := t.lanes, links := t.links, host := t.host, signals := s.signals ++ [.stalls] }) ∧
    ((s.lane n).state ≠ .writing ∨ (s.lane n).waits.openAck ≠ none ∨ (s.lane n).fifo = [] ∨ laneRecord s n = none ∨
        (s.lane n).credits = 0 ∨ (s.link n).up = false → exec (.data n) s = .next (settle s)) ∧
    (∀ page : Nat,
      (∀ f, writeFrame s n page = some f → (s.frame f).state = .resident ∧
        ∃ p, p ∈ (s.lane n).pins ∧ p.kind = .write ∧ p.page = page ∧ p.frame = some f) ∧
      ((∀ p, p ∈ (s.lane n).pins → p.kind = .write → p.page = page → ∀ f, p.frame = some f → (s.frame f).state ≠ .resident) →
        writeFrame s n page = none))) ∧
  (∀ (s : State),
    (∀ j r, (s.job j).record = some r → jobSubsts s j = r.substs) ∧ (∀ i x, s.disc i = some x → discSerial s i = x.serial)) ∧
  ∀ (serial : Option Nat) (sector : Nat) (bs : List Byte), composeSector [] serial sector bs = bs ∧
    ∀ (e : Subst) (rest : List Subst), e.offset + e.length ≤ bs.length → (∀ xs, e.kind = .fixed xs → e.length ≤ xs.length) →
      (∀ w, e.kind = .serial w → e.length = w ∧ serial ≠ none) →
      ∃ cs, composeSector (e :: rest) serial sector bs = composeSector rest serial sector cs ∧ cs.length = bs.length ∧
        (e.sector ≠ sector → cs = bs) ∧
        (e.sector = sector → ∀ k, k < bs.length →
          (k < e.offset ∨ e.offset + e.length ≤ k → cs.getD k 0 = bs.getD k 0) ∧
          (e.offset ≤ k → k < e.offset + e.length →
            (∀ xs, e.kind = .fixed xs → cs.getD k 0 = xs.getD (k - e.offset) 0) ∧
            ∀ v, e.kind = .serial e.length → serial = some v →
              cs.getD k 0 = BitVec.ofNat 8 (0x30 + v / 10 ^ (e.offset + e.length - 1 - k) % 10)))

/-- A pace review (R74 to R76): the history takes the window's gap as its newest bit, the review count advances and the window's gaps
are 0 again. Where no request is outstanding, a lower rate is asked for at the job's gap limit, the highest offered one below the
current; else, after four reviews without a gap, at least four since the last change, and with a FIFO of at least 24, the lowest offered
rate above the current one, where that lies at or below the ceiling. Otherwise none is asked for. -/
def Obligations.PaceReviewed : Prop :=
  ∀ (n : LaneNo) (r : JobRecord) (s : State), (s.link n).up = true →
    let l := s.lane n
    let t := paceReview n r s
    let asks := fun (rate : Nat) (why : SpeedPurpose) => (t.lane n).speedReq = some ⟨rate, why, s.port.timeBase⟩ ∧
      t.link n = { s.link n with outbound := (s.link n).outbound ++ [.setSpeed rate] }
    let asksNone := (t.lane n).speedReq = l.speedReq ∧ t.link n = s.link n
    let clean := l.pace.windowGaps = 0 ∧ l.pace.history &&& 7 = 0 ∧ 3 ≤ l.pace.reviews ∧ 24 ≤ l.fifo.length
    (t.lane n).pace = ⟨(l.pace.history <<< 1) ||| (if 0 < l.pace.windowGaps then 1 else 0), min 255 (l.pace.reviews + 1), 0,
      l.pace.toward⟩ ∧
    (l.speedReq ≠ none → asksNone) ∧
    (∀ rate lower, l.speedReq = none → l.rate = some rate → r.gapLimit ≠ 0 → r.gapLimit ≤ l.pace.windowGaps →
      highestBelow l.offered rate = some lower → asks lower .downshift) ∧
    (∀ rate, l.speedReq = none → l.rate = some rate → r.gapLimit ≠ 0 → r.gapLimit ≤ l.pace.windowGaps →
      highestBelow l.offered rate = none → asksNone) ∧
    (∀ rate higher top, l.speedReq = none → l.rate = some rate → clean →
      l.offered.find? (fun x => decide (rate < x)) = some higher → l.ceiling = some top →
      (higher ≤ top → asks higher .upshift) ∧ (top < higher → asksNone)) ∧
    (∀ rate, l.speedReq = none → l.rate = some rate → clean → (∀ x, x ∈ l.offered → x ≤ rate) → asksNone) ∧
    (l.speedReq = none → l.pace.windowGaps < r.gapLimit ∨ r.gapLimit = 0 → ¬ clean → asksNone)

/-- FILL_READ_DONE and FILL_READ_TIMEOUT (R50 to R54, R56 to R59): both always complete. A good completion stores its bytes, 4,096 or, for
the last read of an odd page, 2,048; the last one
makes the page RESIDENT, used now, empties the fill slot, and the lanes that pin the page are told, after the Fetch Engine has started
a waiting request. A failed read fails the attempt, the next beginning at once with all its reads, and the third fails the page. A
completion of no live read changes nothing. At the limit the time base goes to it (log 7, DESIGN CHOICE). The engine starts the first
waiting request by rank in the lowest free slot: on the lowest FREE frame, else the RESIDENT one with no pin used longest ago, else the
lowest FAILED one. A page that fails makes its frame FAILED with no pin, frees the slot, is logged with the lanes that pin it, told in
ascending order: a writing lane's disc is rejected with IMAGE_FETCH, a verifying one's with VERIFY_REFERENCE as its unit goes FREE, a
diagnosis ends, and the job takes its IMAGE_FETCH hold cause. A released frame that fails goes FREE, its lanes told alike (R59). The
rank is the class, WRITE before VERIFY, then the smallest lead time of the lanes that write it, the leading lane and the page, or the
arrival; a lead time is the sectors a lane has ahead, in its FIFO and its RESIDENT write pages, at its rate in whole microseconds (R57,
R58). A started fill takes its frame, FILLING with its pins, and issues all reads of its first attempt (R50, R51). The widths of the
entry's fields are log 59 (PRESUMED); that each lane told has its turn of grants before the next is log 8 (DESIGN CHOICE); that a frame
from FILLING keeps its stamp is log 61 (DESIGN CHOICE); that a completion of no live read changes nothing else is log 4 (DESIGN CHOICE). -/
def Obligations.FillReadsTaken : Prop :=
  (∀ (fill attempt read : Nat) (s : State),
    (∀ result, exec (.fillReadDone fill attempt read result) s = .next (settle (fillRead fill attempt read result s))) ∧
    exec (.fillReadTimeout fill attempt read) s = .next (settle (fillExpired fill attempt read s))) ∧
  (∀ (fill attempt read : Nat) (s : State), MemoriesWf s →
    (∀ result, liveRead s fill attempt read = none →
      exec (.fillReadDone fill attempt read result) s = .next (settle s) ∧
      exec (.fillReadTimeout fill attempt read) s = .next (settle s)) ∧
    ∀ slot x r, liveRead s fill attempt read = some (slot, x, r) →
      let stored := if 2 * read + 1 = x.sectors then 2048 else 4096
      (∀ bs, ∃ u, exec (.fillReadDone fill attempt read (.data bs)) s = .next (settle u) ∧
        (∀ k, k < stored →
          Memory.read u.dram (131072 * x.frame.val + 4096 * read + k) = bs.getD k 0) ∧
        SameOutside (131072 * x.frame.val + 4096 * read) stored s.dram u.dram ∧
        ((∃ i y, i ≠ read ∧ x.reads[i]? = some y ∧ y.done = false) →
          u = { s with dram := u.dram, fetch := { s.fetch with
            fills := s.fetch.fills.set slot.val (some { x with reads := x.reads.modify read fun y => { y with done := true } })
              slot.isLt } }) ∧
        ((∀ i y, i ≠ read → x.reads[i]? = some y → y.done = true) →
          ∃ v, u = tellAllReady (pinsOn s x.frame) (feStart v) ∧ v.dram = u.dram ∧
            v.fetch = { s.fetch with fills := s.fetch.fills.set slot.val none slot.isLt } ∧
            (∀ g, g ≠ x.frame → v.frame g = s.frame g) ∧
            ((s.frame x.frame).released = false →
              v.frame x.frame = { s.frame x.frame with state := .resident, lastUse := s.port.timeBase } ∧
              v = { s with dram := v.dram, fetch := v.fetch, frames := v.frames }) ∧
            ((s.frame x.frame).released = true → (v.frame x.frame).state = .free ∧
              v = { s with dram := v.dram, fetch := v.fetch, frames := v.frames, lanes := v.lanes }))) ∧
      (∀ (timed : Bool),
        let s1 := if timed then s.advanceTo (r.issuedAt + 50000) else s
        let c := if timed then Instr.fillReadTimeout fill attempt read else .fillReadDone fill attempt read .error
        let how := if timed then FetchFailure.timeout else .readError
        ((s.frame x.frame).released = true → exec c s = .next (settle (releasedFails slot x s1))) ∧
        ((s.frame x.frame).released = false → attempt < 2 →
          exec c s = .next (settle (setFill slot { x with reads := freshReads x.sectors s1.port.timeBase }
            (s1.setFrame x.frame { s.frame x.frame with attempts := attempt + 1 })))) ∧
        ((s.frame x.frame).released = false → 2 ≤ attempt → exec c s = .next (settle (pageFails slot x how s1))))) ∧
  (∀ (slot : Fin 8) (x : Fill) (how : FetchFailure) (s : State),
    let g := s.frame x.frame
    let told := pinsOn s x.frame
    let freed := fun (f : Frame) => feStart { s with
      frames := s.frames.set x.frame.val f x.frame.isLt
      fetch := { s.fetch with fills := s.fetch.fills.set slot.val none slot.isLt } }
    let unpinned := fun t => told.foldl (fun u p => removePin p u) t
    (told = allLanes.filterMap fun n => ((s.lane n).pins.find? fun p => decide (p.frame = some x.frame)).map fun p => (n, p)) ∧
    pageFails slot x how s = holdJobFor g.slot .imageFetch (tellAllFailed told (unpinned (logEntry .fetchFault g.slot.val
      (word g.page ++ half x.frame.val ++ byte how.code ++ half told.length)
      (freed { g with state := .failed, attempts := 2, pinCount := 0 })))) ∧
    ∃ w : State, releasedFails slot x s = tellAllFailed told (feStart { w with
        fetch := { s.fetch with fills := s.fetch.fills.set slot.val none slot.isLt } }) ∧
      w = { s with frames := w.frames, lanes := w.lanes } ∧
      w.frame x.frame = { g with state := .free, slot := 0, page := 0, pinCount := 0, attempts := 0, released := false } ∧
      (∀ f, f ≠ x.frame → w.frame f = s.frame f) ∧
      ∀ n, (w.lane n = { s.lane n with pins := (w.lane n).pins }) ∧
        ∀ q, q ∈ (w.lane n).pins ↔ q ∈ (s.lane n).pins ∧ (n, q) ∉ told) ∧
  (∀ (n : LaneNo) (p : LanePin) (rest : List (LaneNo × LanePin)) (s : State),
    tellAllFailed [] s = s ∧ tellAllFailed ((n, p) :: rest) s = tellAllFailed rest (laneTurn (tellFailed p n s)) ∧
    removePin (n, p) s = s.setLane n { s.lane n with pins := (s.lane n).pins.filter fun q => decide (q ≠ p) } ∧
    (p.kind = .write → tellFailed p n s = laneReject n .imageFetch 0 id s) ∧
    (p.kind = .diagnostic → tellFailed p n s = diagEnd n .reference s) ∧
    (p.kind = .compare →
      ((s.lane n).verify.unit = none → tellFailed p n s = s) ∧
      ∀ w, (s.lane n).verify.unit = some w →
        ((s.unit w).state ≠ .referenceWait → tellFailed p n s = s) ∧
        ((s.unit w).state = .referenceWait → ∃ v, tellFailed p n s = verifyStop n .verifyReference v ∧
          v.unit w = CompareUnit.reset ∧ (∀ u, u ≠ w → v.unit u = s.unit u) ∧
          v.lane n = { s.lane n with verify := { (s.lane n).verify with stage := .off, unit := none } } ∧
          (∀ m, m ≠ n → v.lane m = s.lane m) ∧
          v = { s with lanes := v.lanes, verify := v.verify, signals := s.signals ++ [.grant] }))) ∧
  (∀ (n : LaneNo) (p : LanePin) (s : State),
    (p.kind = .write → tellReady p n s = s) ∧
    (p.kind = .diagnostic → tellReady p n s = diagReady n s) ∧
    ∀ w, p.kind = .compare → (s.lane n).verify.unit = some w →
      tellReady p n s = if (s.unit w).state = .referenceWait then s.setUnit w { s.unit w with state := .comparing } else s) ∧
  (∀ (n : LaneNo) (rate : Nat) (s : State), (s.lane n).rate = some rate → leadTime s n =
    ((s.lane n).fifo.length + ((s.lane n).pins.map fun p =>
      if p.kind = .write ∧ p.frame.map (fun f => (s.frame f).state) = some .resident then
        64 * p.page + min 64 (imageSectors s p.slot - 64 * p.page) - max (s.lane n).nextCopy (64 * p.page)
      else 0).sum) * 1000000 / rate) ∧
  (∀ (x y : Nat) (a b : List Nat),
    rankLe [] [] = true ∧ (rankLe (x :: a) (y :: b) = true ↔ x < y ∨ (x = y ∧ rankLe a b = true))) ∧
  (∀ (r : FetchReq) (s : State),
    let writes := fun n => n ∈ r.lanes ∧ ∃ p, p ∈ (s.lane n).pins ∧ p.kind = .write ∧ p.slot = r.slot ∧ p.page = r.page
    (∀ n, writes n → (∀ m, writes m → leadTime s n < leadTime s m ∨ (leadTime s n = leadTime s m ∧ n ≤ m)) →
      requestRank s r = [0, leadTime s n, n.val, r.page, r.slot.val]) ∧
    ((∀ n, ¬ writes n) → requestRank s r = [1, r.arrival, r.slot.val, r.page, 0])) ∧
  (∀ (r : FetchReq) (k : Fin 8) (f : FrameNo) (s : State),
    let u := startFill r k f s
    let sectors := min 64 (imageSectors s r.slot - 64 * r.page)
    u.frame f = { s.frame f with
      state := .filling, slot := r.slot, page := r.page, pinCount := r.lanes.length, attempts := 0, released := false } ∧
    (∀ g, g ≠ f → u.frame g = s.frame g) ∧
    u.fetch = { s.fetch with
      queue := s.fetch.queue.filter fun q => decide (q ≠ r)
      fills := s.fetch.fills.set k.val (some ⟨s.fetch.nextFill, f, imageBase s r.slot + 131072 * r.page, sectors,
        List.replicate ((sectors + 1) / 2) ⟨false, s.port.timeBase⟩⟩) k.isLt
      nextFill := s.fetch.nextFill + 1 } ∧
    (∀ n, u.lane n = if n ∈ r.lanes then { s.lane n with pins := (s.lane n).pins.map fun p =>
      if p.slot = r.slot ∧ p.page = r.page then { p with frame := some f } else p } else s.lane n) ∧
    u = { s with frames := u.frames, lanes := u.lanes, fetch := u.fetch }) ∧
  ∀ s : State,
    ((∀ k : Fin 8, s.fetch.fills[k] ≠ none) ∨ s.fetch.queue = [] → feStart s = s) ∧
    ∀ (k : Fin 8) r f, s.fetch.fills[k] = none → (∀ i : Fin 8, i < k → s.fetch.fills[i] ≠ none) →
      chooseRequest s s.fetch.queue = some r → chooseFrame s = some f →
      (r ∈ s.fetch.queue ∧ ∀ q, q ∈ s.fetch.queue → rankLe (requestRank s r) (requestRank s q) = true) ∧
      ((∃ g, (s.frame g).state = .free) → (s.frame f).state = .free ∧ ∀ g, g < f → (s.frame g).state ≠ .free) ∧
      ((∀ g, (s.frame g).state ≠ .free) → (∃ g, (s.frame g).idle = true) → (s.frame f).idle = true ∧ ∀ g, (s.frame g).idle = true →
        (s.frame f).lastUse < (s.frame g).lastUse ∨ ((s.frame f).lastUse = (s.frame g).lastUse ∧ f ≤ g)) ∧
      ((∀ g, (s.frame g).state ≠ .free ∧ (s.frame g).idle = false) → (s.frame f).state = .failed ∧
        ∀ g, g < f → (s.frame g).state ≠ .failed) ∧
      feStart s = startFill r k f s

/-- COMPARE_DONE and DIAG_COMPARE_DONE (R116, R117, R120, R121): a unit comparing for a disc passes its block on only where every sector
equals its reference, which is the frame's sector composed as for a write (R115, R70), else adds a miscompare and stops verification; a
discarded one is given up; one comparing for a diagnosis tallies the sectors that differ, which the command names (log 48, DEDUCED). A
unit that compares nothing of the kind does nothing (log 4, DESIGN CHOICE). A grant (R113, R114) gives the earliest request the lowest
FREE unit: one for a disc pins its page and compares at once where that is RESIDENT, waits where it is not, and ends the disc with
VERIFY_REFERENCE where it is FAILED; one for a diagnosis compares. A disc rejected for another reason gives its stage back: nothing, its
request, its waiting unit, or a discard mark on a comparing one. A unit with that mark ends by going FREE, the lane's compare pin given up
and its FIFO emptied, and a lane that waited for it enters its rest state: IDLE with a dispatch pass, FAULTED with its link DOWN, OFFLINE
where it is not enabled; a lane that reaches its rest state first waits. -/
def Obligations.ComparesTaken : Prop :=
  (∀ (n : LaneNo) (s : State),
    let l := s.lane n
    let stage := fun (v : VerifyState) => ({ l with verify := v } : Lane)
    (l.verify.stage = .off → giveBack n s = s) ∧
    (l.verify.stage = .queued → giveBack n s = ({ s with
      verify := { s.verify with queue := s.verify.queue.filter fun q => decide (q.lane ≠ n) } } : State).setLane n
        (stage { l.verify with stage := .off })) ∧
    (l.verify.stage = .granted → l.verify.unit = none → giveBack n s = s.setLane n (stage { l.verify with stage := .off })) ∧
    ∀ u, l.verify.unit = some u →
      (l.verify.stage = .granted → (s.unit u).state = .comparing → giveBack n s =
        (s.setUnit u { s.unit u with discard := true }).setLane n (stage { l.verify with stage := .off })) ∧
      (l.verify.stage = .granted → (s.unit u).state ≠ .comparing →
        ∃ v, giveBack n s = v ∧ v.unit u = CompareUnit.reset ∧ (∀ w, w ≠ u → v.unit w = s.unit w) ∧
          v.lane n = { stage { l.verify with stage := .off, unit := none } with pins := (v.lane n).pins } ∧
          (∀ p, p ∈ (v.lane n).pins ↔ p ∈ l.pins ∧ p.kind ≠ .compare) ∧ (∀ m, m ≠ n → v.lane m = s.lane m) ∧
          v = { s with
            frames := v.frames, fetch := v.fetch, lanes := v.lanes, verify := v.verify, signals := s.signals ++ [.grant] }) ∧
      ∃ v, endDiscarded u n s = (if l.restPending then laneRest n v else v) ∧
        v.unit u = CompareUnit.reset ∧ (∀ w, w ≠ u → v.unit w = s.unit w) ∧
        v.lane n = { stage { l.verify with unit := none } with fifo := [], pins := (v.lane n).pins } ∧
        (∀ p, p ∈ (v.lane n).pins ↔ p ∈ l.pins ∧ p.kind ≠ .compare) ∧ (∀ m, m ≠ n → v.lane m = s.lane m) ∧
        v = { s with
          frames := v.frames, fetch := v.fetch, lanes := v.lanes, verify := v.verify, signals := s.signals ++ [.grant] }) ∧
  (∀ (n : LaneNo) (s : State),
    let l := s.lane n
    let held : Lane := { l with disc := none, inTray := false, orphan := false, refuse := none, restPending := false }
    let entered := fun (st : LaneState) => ({ held with
      state := st, trail := if l.state = st then l.trail else lastEight (l.trail ++ [(st, s.port.timeBase)]) } : Lane)
    let waits := ∃ u, l.verify.unit = some u ∧ (s.unit u).discard = true ∧ (s.unit u).owner = some n
    (waits → laneRest n s = s.setLane n { held with restPending := true }) ∧
    (¬ waits →
      (l.enabled = true → (s.link n).up = false → laneRest n s = faultLane n .linkDown none (s.setLane n held)) ∧
      ∃ v, (∀ m, m ≠ n → v.lane m = s.lane m) ∧ v = { s with port := v.port, lanes := v.lanes, host := v.host, signals := v.signals } ∧
        (l.enabled = true → (s.link n).up = true →
          laneRest n s = v ∧ v.lane n = entered .idle ∧ .dispatch ∈ v.signals ∧ .sweepTest ∈ v.signals) ∧
        (l.enabled = false → laneRest n s = v ∧ v.lane n = entered .offline ∧ .sweepTest ∈ v.signals))) ∧
  (∀ (u : CompareUnit) (n : LaneNo) (f : FrameNo) (slot : Nat → List Byte) (s : State),
    (∃ p, p ∈ (s.lane n).pins ∧ p.kind = .compare) → (∀ p, p ∈ (s.lane n).pins → p.kind = .compare → p.frame = some f) →
    (∀ k, k < u.blockCount → ⟨u.blockStart + k, slot k⟩ ∈ (s.lane n).fifo) →
    (∀ x y, x ∈ (s.lane n).fifo → y ∈ (s.lane n).fifo → x.sector = y.sector → x = y) →
    (blockEqual s u n = true ↔ ∀ k, k < u.blockCount → slot k = composeSector (jobSubsts s u.slot) u.serial (u.blockStart + k)
      (Memory.readBytes s.dram (131072 * f.val + 2048 * ((u.blockStart + k) % 64)) 2048))) ∧
  (∀ s : State, (∀ u, (s.unit u).state ≠ .free) ∨ s.verify.queue = [] → takeSignal .grant s = s) ∧
  (∀ (u : UnitNo) (r : CompareReq) (s : State), (s.unit u).state = .free → (∀ w, w < u → (s.unit w).state ≠ .free) →
    r ∈ s.verify.queue →
    (∀ q, q ∈ s.verify.queue → q ≠ r → r.arrival < q.arrival ∨ (r.arrival = q.arrival ∧ r.lane < q.lane)) →
    ∃ t, t = { s with lanes := t.lanes, verify := t.verify } ∧ (∀ w, w ≠ u → t.unit w = s.unit w) ∧
      t.verify.queue = s.verify.queue.filter (fun q => decide (q ≠ r)) ∧
      t.unit u = ⟨if r.kind = .disc then .referenceWait else .comparing, some r.lane, r.kind, r.blockStart, r.blockCount, r.slot,
        r.serial, r.blockStart, false, 0, none⟩ ∧
      t.lane r.lane = { s.lane r.lane with verify := { (s.lane r.lane).verify with stage := .granted, unit := some u } } ∧
      (∀ m, m ≠ r.lane → t.lane m = s.lane m) ∧
      (r.kind = .diagnosis → takeSignal .grant s = t) ∧
      (r.kind = .disc →
        let page := r.blockStart / 64
        let off : State := t.setLane r.lane { s.lane r.lane with verify := { (s.lane r.lane).verify with stage := .off, unit := none } }
        (pinFinds s r.slot page = .ready → takeSignal .grant s =
          (pinPage r.lane .compare r.slot page t).setUnit u { t.unit u with state := .comparing }) ∧
        (pinFinds s r.slot page = .waits → takeSignal .grant s = pinPage r.lane .compare r.slot page t) ∧
        (pinFinds s r.slot page = .failed → takeSignal .grant s =
          holdJobFor r.slot .imageFetch (verifyStop r.lane .verifyReference (freeUnit u off))))) ∧
  ∀ (u : UnitNo) (faulty : List Nat) (s : State),
    ((s.unit u).state ≠ .comparing ∨ (s.unit u).owner = none →
      exec (.compareDone u) s = .next (settle s) ∧ exec (.diagCompareDone u faulty) s = .next (settle s)) ∧
    ((s.unit u).kind = .diagnosis → exec (.compareDone u) s = .next (settle s)) ∧
    ((s.unit u).kind = .disc → exec (.diagCompareDone u faulty) s = .next (settle s)) ∧
    ∀ n, (s.unit u).state = .comparing → (s.unit u).owner = some n →
      ((s.unit u).kind = .disc → (s.unit u).discard = true → exec (.compareDone u) s = .next (settle (endDiscarded u n s))) ∧
      ((s.unit u).kind = .disc → (s.unit u).discard = false →
        let s1 := updVerify n (fun v => { v with stage := .off, unit := none }) (unpinKind n .compare (freeUnit u s))
        (blockEqual s (s.unit u) n = true →
          exec (.compareDone u) s = .next (settle (nextBlock n (imageSectors s (s.unit u).slot)
            (s1.updLane n fun l => { l with fifo := [] })))) ∧
        (blockEqual s (s.unit u) n = false →
          exec (.compareDone u) s = .next (settle (verifyStop n .verifyMiscompare
            (updVerify n (fun v => { v with miscompare := satInc max16 v.miscompare }) s1))))) ∧
      ((s.unit u).kind = .diagnosis →
        exec (.diagCompareDone u faulty) s = .next (settle (diagBlockDone n (diagDiffs (s.unit u) faulty).length
          (diagDiffs (s.unit u) faulty).head? (updVerify n (fun v => { v with stage := .off, unit := none }) (freeUnit u s)))) ∧
        ∀ x, x ∈ diagDiffs (s.unit u) faulty ↔
          x ∈ faulty ∧ (s.unit u).blockStart ≤ x ∧ x < (s.unit u).blockStart + (s.unit u).blockCount)

/-! ### The arm (chapter 7) -/

/-- MOVE_STEP_DONE (R131, R134, R135): by the phase the axis's position is its target; the lift leads to the swing or, with the swing at
its station, to the arrival; the swing to the arrival; the descent to the grip or the release, or back up for a task given up or turned
away (log 42, DEDUCED); the rise to what follows it, with the positions shown at the move's end alone (log 45, DEDUCED). A descent to a
tray or a rise that finds the lift at its target ends at once, by a step of its own whose sensor readings are free values (log 53). A task
finished by its drop ends after its rise (log 30, DEDUCED), and one given up in a lift or a swing when that step has run to its end (log
65, DESIGN CHOICE). A phase that ends otherwise, or an arm that is not MOVING, takes no such event (log 4, DESIGN CHOICE). The gripper
that opens as a search begins, and as an offered tray's gripping descent begins, is log 23 (DEDUCED). Above a tray the arm waits for its
offer, which a lane gives on an UP link alone; above a spindle it searches. A grip at a tray takes the lane's or the printer's disc, by
its record, or an orphan: the record is on the ARM, the tray EMPTY; one that reads none is a GRIP_MISS, or an orphan gone (logs 66 and 70,
DESIGN CHOICE), or in the sweep opens the gripper and rises, the tray being marked after the rise (R146, log 30). A release places the
disc: its record, the tray's entry and claim, and the lane's or the printer's part, a halted or FAULTED printer rejecting it (R150, R161).
A tray offered to the arm that waits above it begins the timed descent, the gripper first opened where it is to grip, with readings that
are free values (log 53); one opened for a load with a disc present is OCCUPIED, and the task fails with TRAY_OCCUPIED (R124, R134, R138);
an offer to an arm that does not wait there is not taken (log 67, DESIGN CHOICE). A tray lost before the grip ends the task, at once and
with the arm's state kept where the arm is not MOVING (log 75, DESIGN CHOICE). -/
def Obligations.MoveStepsTaken : Prop :=
  (∀ (dest : Bool) (sense : Sensors) (c : ArmTask) (s : State), s.transport.current = some c →
    let k := c.target dest
    let t := arriveAt dest sense s
    let waits : State := showPositions { s with transport := { s.transport with timer := none } }
    (isTray k = true →
      ∃ w, w.transport = { waits.transport with current := some { c with phase := .waitTray dest } } ∧
        w = { s with port := w.port, transport := w.transport, host := w.host } ∧
        (c.redirect = true → t = { w with signals := s.signals ++ [.armRejected] }) ∧
        (∀ n, c.redirect = false → laneOfTray k = some n → t = laneAskOpen n (decide (c.task.kind = .load)) w) ∧
        (c.redirect = false → laneOfTray k = none → t = askPresent w)) ∧
    (isTray k = false → t.transport.current = some { c with phase := .search dest } ∧ t.transport.timer = s.transport.timer ∧
      t.transport.gripperClosed = (dest && s.transport.gripperClosed) ∧
      t = { s with port := t.port, transport := t.transport, host := t.host })) ∧
  (∀ (n : LaneNo) (load : Bool) (s : State),
    let l := s.lane n
    let entered := if load then LaneState.trayLoad else .trayUnload
    let asked := (load = true ∧ l.state ∈ [.loadWait, .trayLoad]) ∨ (load = false ∧ l.state ∈ [.unloadWait, .trayUnload])
    (¬ asked ∨ (s.link n).up = false → laneAskOpen n load s = s) ∧
    (asked → (s.link n).up = true → ∃ v, laneAskOpen n load s = v ∧
      v.lane n = { l with
        state := entered
        trail := if l.state = entered then l.trail else lastEight (l.trail ++ [(entered, s.port.timeBase)])
        waits := if l.waits.tray = none then
          { l.waits with tray := some ⟨.opened, if load then .loadOpen else .unloadOpen, s.port.timeBase⟩ } else l.waits } ∧
      v.link n = (if l.waits.tray = none then { s.link n with outbound := (s.link n).outbound ++ [.tray .opened] } else s.link n) ∧
      (∀ m, m ≠ n → v.lane m = s.lane m ∧ v.link m = s.link m) ∧
      v = { s with port := v.port, lanes := v.lanes, links := v.links, host := v.host, signals := v.signals })) ∧
  (∀ (sense : Sensors) (c : ArmTask) (s : State), s.transport.current = some c →
    let t := gripAtTray sense s
    let miss := t = armFail .gripMiss (setGripper true sense s)
    let emptied := (∀ k, k ≠ c.task.source → t.entry k = s.entry k) ∧
      t.entry c.task.source = { s.entry c.task.source with occupancy := .empty, disc := none } ∧ t.jobs = s.jobs
    let now := fun (d : ArmTask) => t.transport.current = some { d with phase := .rise false }
    (∀ n d x, c.task.kind = .unloadLane → c.lane = some n → c.task.source = trayOf n → (s.lane n).disc = some d →
      (sense.discPresent = false → miss) ∧
      (sense.discPresent = true → s.disc d.index = some x → emptied ∧ now { c with cargo := some (.disc d.index), tellClose := true } ∧
        t.disc d.index = some { x with location := .arm } ∧ (∀ i, i ≠ d.index → t.disc i = s.disc i) ∧
        t.lane n = { s.lane n with inTray := false } ∧ ∀ m, m ≠ n → t.lane m = s.lane m)) ∧
    (∀ d x, c.task.kind = .unloadPrinter → c.task.source = stationPrinter → s.printer.disc = some (.disc d) →
      (sense.discPresent = false → miss) ∧
      (sense.discPresent = true → s.disc d.index = some x → emptied ∧ now { c with cargo := some (.disc d.index), tellClose := true } ∧
        t.disc d.index = some { x with location := .arm } ∧ (∀ i, i ≠ d.index → t.disc i = s.disc i) ∧ t.lanes = s.lanes)) ∧
    (c.task.kind = .sweepPrinter ∨ (c.task.kind = .unloadPrinter ∧ ∀ d, s.printer.disc ≠ some (.disc d)) ∨
        (c.task.kind = .unloadLane ∧ ∃ n, c.lane = some n ∧ (s.lane n).disc = none) → t.roster = s.roster ∧
      (sense.discPresent = true → emptied ∧ now { c with cargo := some (.orphan (some c.task.source)), tellClose := true }) ∧
      (sense.discPresent = false → c.task.kind ≠ .sweepPrinter →
        emptied ∧ now { c with finished := true, tellClose := true } ∧ t.transport.gripperClosed = true) ∧
      (sense.discPresent = false → c.task.kind = .sweepPrinter →
        (∀ k, t.entry k = s.entry k) ∧ t.jobs = s.jobs ∧ now { c with finished := true, tellClose := false } ∧
        t.transport.gripperClosed = false ∧ t.transport.discPresent = Config.discSensor s.draws ∧
        t.transport.thicknessTwo = Config.thicknessSensor s.draws ∧ t.draws = s.draws + 1))) ∧
  (∀ (k : StationNo) (present : Bool) (s : State),
    (∀ c dest, ArmAt c (.waitTray dest) s → c.target dest = k →
      (dest = true → present = true → ∃ v, trayOffered k present s = armFail .trayOccupied v ∧
        v.entry k = { s.entry k with occupancy := .occupied, disc := none } ∧ (∀ i, i ≠ k → v.entry i = s.entry i) ∧
        v = { s with port := v.port, transport := { s.transport with map := v.transport.map }, host := v.host }) ∧
      (dest = false ∨ present = false → ∃ v, trayOffered k present s = endAtOnce v ∧
        v.transport = { s.transport with
          current := some { c with phase := .descend dest }, timer := some s.port.timeBase
          gripperClosed := dest && s.transport.gripperClosed
          discPresent := if dest = false ∧ s.transport.gripperClosed = true then Config.discSensor s.draws
            else s.transport.discPresent
          thicknessTwo := if dest = false ∧ s.transport.gripperClosed = true then Config.thicknessSensor s.draws
            else s.transport.thicknessTwo } ∧
        v = { s with
          port := v.port, transport := v.transport, host := v.host, draws := if dest then s.draws else s.draws + 1 })) ∧
    ((∀ c dest, ArmAt c (.waitTray dest) s → c.target dest ≠ k) → trayOffered k present s = s)) ∧
  (∀ (sense : Sensors) (c : ArmTask) (i : DiscNo) (x : DiscRecord) (s : State), s.transport.current = some c →
    let t := releaseAtTray sense s
    let placed := (∀ k, k ≠ c.task.dest → t.entry k = s.entry k) ∧
      t.entry c.task.dest = { s.entry c.task.dest with occupancy := .occupied, disc := some i, claim := false } ∧
      ∀ k, k ≠ i → t.disc k = s.disc k
    let rises := fun tell => t.transport.current = some { c with cargo := none, finished := true, tellClose := tell, phase := .rise true }
    (sense.discPresent = true → t = armFail .releaseFail (setGripper false sense s)) ∧
    (∀ n, sense.discPresent = false → c.cargo = some (.disc i) → s.disc i = some x → c.task.dest = trayOf n → placed ∧ rises true ∧
      t.disc i = some { x with location := .lane n } ∧ t.lane n = { s.lane n with inTray := true } ∧
      (∀ m, m ≠ n → t.lane m = s.lane m) ∧ t.jobs = s.jobs ∧ t.links = s.links) ∧
    (∀ j : SlotNo, sense.discPresent = false → c.cargo = some (.disc i) → s.disc i = some x → c.task.dest = stationPrinter →
      x.slot = BitVec.ofNat 8 j.val → placed ∧ rises false ∧
      let p := s.printer
      let kept := t.disc i = some { x with location := .printer }
      let rejected := x.outcome = .passed →
        t.disc i = some { x with location := .printer, outcome := .rejected, reason := some .labelIncomplete }
      (p.state = .empty → p.halt = false → kept ∧ t.printer = { p with
        disc := some (.disc ⟨i, j⟩), complete := false, state := .loaded, move := some .retract, moveStart := s.port.timeBase }) ∧
      (p.state = .empty → p.halt = true → rejected ∧
        t.printer = { p with disc := some (.disc ⟨i, j⟩), complete := false, state := .loaded }) ∧
      (p.state = .faulted → rejected ∧ t.printer = { p with disc := some (.disc ⟨i, j⟩), complete := false }))) ∧
  (∀ (n : LaneNo) (s : State), (s.transport.current = none → giveUpUnload n s = s) ∧
    ∀ c, s.transport.current = some c →
      let own := c.task.kind = .unloadLane ∧ c.lane = some n ∧ c.cargo = none ∧ c.finished = false
      (¬ own → giveUpUnload n s = s) ∧
      (own → ∃ v, (∀ k, v.entry k = if k = c.task.dest ∧ isTray k = true then { s.entry k with claim := false } else s.entry k) ∧
        v.transport = { s.transport with map := v.transport.map } ∧ v = { s with port := v.port, transport := v.transport, host := v.host } ∧
        (∀ d, s.transport.arm = .moving → c.phase = .waitTray d → giveUpUnload n s = endTask v) ∧
        ∃ u, u = { s with port := u.port, transport := u.transport, host := u.host } ∧
          (s.transport.arm = .moving → (∀ d, c.phase ≠ .waitTray d) → giveUpUnload n s = u ∧
            u.transport = { v.transport with current := some { c with finished := true, tellClose := false } }) ∧
          (s.transport.arm ≠ .moving → giveUpUnload n s = u ∧ u.transport = { v.transport with current := none }))) ∧
  (∀ (sense : Sensors) (c : ArmTask) (dest : Bool) (s : State),
    let st := s.station (c.target dest)
    let lift := fun h => ({ s with transport := { s.transport with liftPos := h } } : State)
    let swung : State := { s with transport := { s.transport with swingPos := st.swing } }
    let takes := fun t => exec (.moveStepDone sense) s = .next (settle t)
    (ArmAt c (.lift dest) s →
      (c.finished = true → takes (endTask (showPositions (lift 0)))) ∧
      (c.finished = false → (s.transport.swingPos ≠ st.swing → takes (setPhase (.swing dest) (lift 0))) ∧
        (s.transport.swingPos = st.swing → takes (arriveAt dest sense (lift 0))))) ∧
    (ArmAt c (.swing dest) s →
      (c.finished = true → takes (endTask (showPositions swung))) ∧ (c.finished = false → takes (arriveAt dest sense swung))) ∧
    (ArmAt c (.descend dest) s →
      (c.finished = true ∨ c.redirect = true → takes (endAtOnce (setPhase (.rise dest) (lift st.lift)))) ∧
      (c.finished = false → c.redirect = false →
        takes (endAtOnce (if dest then releaseAtTray sense (lift st.lift) else gripAtTray sense (lift st.lift))))) ∧
    (ArmAt c (.rise dest) s → takes (afterRise sense (showPositions (lift 0)))) ∧
    (s.transport.arm ≠ .moving ∨ ArmAt c (.waitTray dest) s ∨ ArmAt c (.search dest) s ∨ ArmAt c .waitFull s ∨
        (∃ k, ArmAt c (.shake k) s) → exec (.moveStepDone sense) s = .next s)) ∧
  ∀ (c : ArmTask) (dest : Bool) (s : State),
    let height := (s.station (c.target dest)).lift
    let levels : Sensors := ⟨Config.discSensor s.draws, Config.thicknessSensor s.draws, Config.ribbonSensor s.draws⟩
    let drawn : State := { s with draws := s.draws + 1 }
    ((ArmAt c (.rise dest) s ∧ s.transport.liftPos = 0) ∨ (ArmAt c (.descend dest) s ∧ s.transport.liftPos = height) →
      endAtOnce s = { s with signals := s.signals ++ [.stepTest] }) ∧
    ((ArmAt c (.rise dest) s ∧ s.transport.liftPos ≠ 0) ∨ (ArmAt c (.descend dest) s ∧ s.transport.liftPos ≠ height) ∨
        s.transport.arm ≠ .moving → endAtOnce s = s ∧ takeSignal .stepTest s = s) ∧
    (ArmAt c (.rise dest) s → s.transport.liftPos = 0 → takeSignal .stepTest s = afterRise levels (showPositions drawn)) ∧
    (ArmAt c (.descend dest) s → s.transport.liftPos = height → takeSignal .stepTest s = endAtOnce (
      if c.finished = true ∨ c.redirect = true then setPhase (.rise dest) drawn
      else if dest then releaseAtTray levels drawn else gripAtTray levels drawn))

/-- CONTACT_TRIP, FLOOR_REACHED and SHAKE_DONE (R13, R16, R17, R125, R132 to R134, R136): a search descent ends, its timer stopped and the
position shown; at the source the gripper closes on the stack or the spindle is EMPTY, at the destination it opens. A single reading after
a shake is a pick, a double one brings the next shake, and after the third the pair is reported. A rise that begins at height 0 ends at
once (R131). The contact height comes with its command (log 49, PRESUMED); in other phases nothing happens (log 4, DESIGN CHOICE). A pick
takes one disc from the spindle's count and turns the reservation into a disc in flight, PENDING on the ARM with the next serial (its
stamp is log 57, DEDUCED); one for an ABORTING job or a marked lane is REJECTED at once (logs 24, DEDUCED, and 56, DESIGN CHOICE). A pair
takes two discs and its record, REJECTED with DOUBLE_FEED, the LOAD is queued again at its old position, and its reservation stands with a
fresh record where the job, the roster and the serials allow it, else ends. A pick that finds the floor ends its reservation; INPUT_EMPTY
is logged then, with the station as subject, before the pick is reported, which comes at the floor and not after the rise that R132 names
first (log 79, DESIGN CHOICE). A next serial above the limit is a SERIAL_RANGE hold cause. The rise after a pick or a pair runs under its
move's timer, and that from a spindle found empty under none (log 51, DEDUCED); the LOAD queued again has fault count 0 (log 17, DEDUCED);
DISC_PICKED has zero bytes of detail (log 41, DEDUCED). -/
def Obligations.ShakesAndSearchesEnd : Prop :=
  (∀ (height : Nat) (sense : Sensors) (c : ArmTask) (s : State),
      let at_ := fun h => showPositions { s with transport := { s.transport with timer := none, liftPos := h } }
      (ArmAt c (.search false) s →
        exec (.contactTrip height sense) s = .next (settle (endAtOnce (gripAtSpindle sense (at_ height)))) ∧
        exec (.floorReached sense) s = .next (settle (endAtOnce (reportEmpty (at_ (s.station c.task.source).lift))))) ∧
      (ArmAt c (.search true) s →
        exec (.contactTrip height sense) s = .next (settle (endAtOnce (releaseAtSpindle sense (at_ height)))) ∧
        exec (.floorReached sense) s = .next (settle (endAtOnce (releaseAtSpindle sense (at_ (s.station c.task.dest).lift))))) ∧
      (s.transport.arm ≠ .moving ∨ (s.transport.current = some c ∧ ∀ d, c.phase ≠ .search d) →
        exec (.contactTrip height sense) s = .next s ∧ exec (.floorReached sense) s = .next s)) ∧
  (∀ (two : Bool) (k : Nat) (c : ArmTask) (s : State),
    (ArmAt c (.shake k) s →
      (two = false → exec (.shakeDone two) s = .next (settle (endAtOnce (reportPick s)))) ∧
      (two = true → k < 3 → ∃ u, exec (.shakeDone two) s = .next (settle u) ∧
        u.transport = { s.transport with
          current := some { c with phase := .shake (k + 1) }, timer := some s.port.timeBase } ∧
        u = { s with port := u.port, transport := u.transport, host := u.host }) ∧
      (two = true → 3 ≤ k → exec (.shakeDone two) s = .next (settle (endAtOnce (reportPair s))))) ∧
    (s.transport.arm ≠ .moving ∨ (s.transport.current = some c ∧ ∀ k, c.phase ≠ .shake k) → exec (.shakeDone two) s = .next s)) ∧
  (∀ (c : ArmTask) (n : LaneNo) (d : DiscRef) (s : State), s.transport.current = some c → c.lane = some n → (s.lane n).disc = some d →
    let k := c.task.source
    let lifted := fun (m : Nat) (cargo : Cargo) (queue : Vector (Option Task) 17) (v : State) =>
      (v.entry k).count = (s.entry k).count - m ∧ (v.entry k).empty = (s.entry k).empty ∧ (∀ q, q ≠ k → v.entry q = s.entry q) ∧
      v.transport = { s.transport with
        current := some { c with cargo := some cargo, unreported := false, phase := .rise false }
        timer := some s.port.timeBase, queue := queue, map := v.transport.map } ∧
      v = { s with port := v.port, transport := v.transport, host := v.host }
    (∃ v, lifted 1 (.disc d.index) s.transport.queue v ∧ reportPick s = pickOne n v) ∧
    (∃ v, lifted 2 (.pair d.index)
        (s.transport.queue.set c.task.requester.val (some { c.task with faults := 0 }) c.task.requester.isLt) v ∧
      reportPair s = makeRejectCarry false (pickPair n v)) ∧
    (isTray c.task.dest = true → isTray k = false →
      ∃ v, ReservationEnds n d v (reportEmpty s) ∧ (v.entry k).count = 0 ∧ (v.entry k).empty = true ∧
        v.entry c.task.dest = { s.entry c.task.dest with claim := false } ∧
        (∀ q, q ≠ k → q ≠ c.task.dest → v.entry q = s.entry q) ∧
        v.transport = { s.transport with
          current := some { c with finished := true, phase := .rise false }, timer := none, map := v.transport.map } ∧
        v = { s with port := v.port, transport := v.transport, host := v.host, signals := s.signals ++ [.stalls] })) ∧
  (∀ (c : ArmTask) (n : LaneNo) (s : State), s.transport.current = some c → c.lane = some n →
    let k := c.task.source
    ∃ w, (w.entry k).count = 0 ∧ (w.entry k).empty = true ∧ (∀ q, q ≠ k → w.entry q = s.entry q) ∧
      w = { s with port := w.port, transport := { s.transport with map := w.transport.map }, host := w.host } ∧
      reportEmpty s = pickNone n (updTask (fun x => { x with finished := true, phase := .rise false })
        (setClaim c.task.dest false { logEntry .inputEmpty k.val [] w with
          transport := { w.transport with timer := none }, signals := s.signals ++ [.stalls] }))) ∧
  (∀ (n : LaneNo) (d : DiscRef) (x : DiscRecord) (s : State), (s.lane n).disc = some d → s.disc d.index = some x →
    let j := s.job d.slot
    let picked := fun (y : DiscRecord) (v : State) => v.disc d.index = some { y with
        location := .arm, serial := j.nextSerial, pickedAt := some (x.pickedAt.getD s.port.timeBase) } ∧
      (∀ i, i ≠ d.index → v.disc i = s.disc i) ∧ (∀ i, i ≠ d.slot → v.job i = s.job i) ∧
      v = { s with port := v.port, jobs := v.jobs, roster := v.roster, host := v.host }
    (∃ v t, picked { x with outcome := .pending } v ∧
      v.job d.slot = { j with reserved := j.reserved - 1, inFlight := j.inFlight + 1, issued := satInc max32 j.issued
                              nextSerial := j.nextSerial.map (· + 1) } ∧
      t = testSerial d.slot (testCounts d.slot (logEntry .discPicked d.index.val [] v)) ∧
      let ends := fun why => pickOne n s = { decideRejected d.index why 0 id t with
        signals := (decideRejected d.index why 0 id t).signals ++ [.armRejected] }
      ((t.job d.slot).state = .aborting → ends .aborted) ∧
      ((t.job d.slot).state ≠ .aborting → ((t.lane n).refuse = some .laneDisabled → ends .laneDisabled) ∧
        ((t.lane n).refuse = some .driveFault → ends .driveFault) ∧ ((t.lane n).refuse = none → pickOne n s = t))) ∧
    ∃ v t, picked { x with outcome := .rejected, reason := some .doubleFeed, doubleFeed := true } v ∧
      v.job d.slot = { j with issued := satInc max32 j.issued, rejected := satInc max32 j.rejected
                              nextSerial := j.nextSerial.map (· + 1) } ∧
      t = logEntry .discRejected d.index.val (byte RejectReason.doubleFeed.code) (logEntry .discPicked d.index.val [] v) ∧
      let allowed := (j.state = .running ∨ j.state = .draining) ∧
        ∀ r w serial, j.record = some r → serialWidth r.substs = some w → j.nextSerial = some serial →
          serial + 1 + (j.reserved - 1) ≤ serialLimit w
      (∀ i, allowed → t.disc i = none → (∀ q, q < i → t.disc q ≠ none) →
        ∃ u, u.disc i = some (freshRecord d.slot n) ∧ (∀ q, q ≠ i → u.disc q = t.disc q) ∧
          u.lane n = { s.lane n with disc := some ⟨i, d.slot⟩ } ∧ (∀ m, m ≠ n → u.lane m = s.lane m) ∧
          u = { t with port := u.port, roster := u.roster, lanes := u.lanes, host := u.host, signals := s.signals ++ [.stalls] } ∧
          pickPair n s = testSerial d.slot (if (s.lane n).refuse = none then u else withdrawLoad n u)) ∧
      (¬ allowed ∨ (∀ i, t.disc i ≠ none) → ∃ u, pickPair n s = testSerial d.slot (testCounts d.slot (endReservation n u)) ∧
        u.job d.slot = { v.job d.slot with reserved := j.reserved - 1 } ∧ (∀ i, i ≠ d.slot → u.job i = s.job i) ∧
        u.queued (requesterOf n) = none ∧ (∀ r, r ≠ requesterOf n → u.queued r = s.queued r) ∧
        u = { t with port := u.port, jobs := u.jobs, transport := u.transport, host := u.host
                     signals := s.signals ++ [.stopTest] })) ∧
  ∀ (j : SlotNo) (s : State),
    let x := s.job j
    let spent := ∃ r w serial, x.record = some r ∧ serialWidth r.substs = some w ∧ x.nextSerial = some serial ∧ serialLimit w < serial
    (spent → testSerial j s = holdJobFor j .serialRange s) ∧ (¬ spent → testSerial j s = s)

/-- The grip and the release at a spindle (R12, R125, R132, R133, R136): no disc read is a GRIP_MISS, a thick grip is shaken, and a disc
still read after a release is a RELEASE_FAIL. A disc dropped, a pair or an orphan advances the count up to the capacity, and the drop that
reaches it sets FULL: a disc at the output is GOOD and counted, one at the reject spindle stands there, a pair counts two, an orphan
changes no record. The task is finished by its drop and ends after the rise (log 30, DEDUCED), which has no timer (log 51, DEDUCED).
DISC_GOOD is logged with the disc's index, ORPHAN_SWEPT with the source station, or 255 for the gripper, in its detail, and then, where
the drop sets FULL, OUTPUT_FULL or REJECT_FULL with the station. Each of the four ways in which a disc changes its job's counters keeps
their balance, and the sum of good, in flight and reserved but for a rejection. -/
def Obligations.SpindleGripsAndDrops : Prop :=
  (∀ (closed : Bool) (sense : Sensors) (s : State), ∃ v, setGripper closed sense s = v ∧
    v.transport = { s.transport with
      gripperClosed := closed, discPresent := sense.discPresent, thicknessTwo := sense.thicknessTwo } ∧
    v = { s with port := v.port, transport := v.transport, host := v.host }) ∧
  (∀ x : Job, x.issued < max32 → x.rejected < max32 →
    let sum := fun (y : Job) => y.good + y.inFlight + y.reserved
    (Balanced x → Balanced x.countPick ∧ Balanced x.countPair ∧
      (0 < x.inFlight → Balanced x.countGood ∧ Balanced x.countReject)) ∧
    (0 < x.reserved → sum x.countPick = sum x) ∧ sum x.countPair = sum x ∧
    (0 < x.inFlight → sum x.countGood = sum x ∧ sum x.countReject + 1 = sum x)) ∧
  (∀ (k : StationNo) (m : Nat) (s : State),
    let sum := (s.entry k).count + m
    let cap := (s.station k).capacity
    ∃ w, (w.entry k).count = min cap sum ∧ (w.entry k).full = ((s.entry k).full || decide (cap ≤ sum)) ∧
      (∀ q, q ≠ k → w.entry q = s.entry q) ∧
      w = { s with port := w.port, transport := { s.transport with map := w.transport.map }, host := w.host } ∧
      ((s.entry k).full = false → cap ≤ sum → countDropped k m s =
        { logEntry (if k = stationOutput then .outputFull else .rejectFull) k.val [] w with signals := s.signals ++ [.stalls] }) ∧
      ((s.entry k).full = true ∨ sum < cap → countDropped k m s = w)) ∧
  (∀ (i : DiscNo) (r : DiscRecord) (j : SlotNo) (s : State), s.disc i = some r → r.slot = BitVec.ofNat 8 j.val →
    ∃ v, dropGood i s = testCounts j (logEntry .discGood i.val [] v) ∧
      v.disc i = some { r with outcome := .good, location := .output, droppedAt := some (r.droppedAt.getD s.port.timeBase) } ∧
      (∀ q, q ≠ i → v.disc q = s.disc q) ∧
      v.job j = { s.job j with good := (s.job j).good + 1, inFlight := (s.job j).inFlight - 1 } ∧ (∀ q, q ≠ j → v.job q = s.job q) ∧
      v = { s with port := v.port, jobs := v.jobs, roster := v.roster, lanes := v.lanes, host := v.host }) ∧
  (∀ (sense : Sensors) (c : ArmTask) (s : State), s.transport.current = some c → sense.discPresent = false →
    let k := c.task.dest
    let w := setGripper false sense s
    let drops := fun (v : State) => releaseAtSpindle sense s = updTask (fun x => { x with
      cargo := none, finished := true, phase := .rise true }) { v with transport := { v.transport with timer := none } }
    (∀ i, c.cargo = some (.disc i) →
      (k = stationOutput → drops (countDropped k 1 (dropGood i w))) ∧ (k ≠ stationOutput → drops (countDropped k 1 (dropReject i w)))) ∧
    (∀ i, c.cargo = some (.pair i) → drops (countDropped k 2 (dropReject i w))) ∧
    ∀ src, c.cargo = some (.orphan src) → drops (countDropped k 1 (logEntry .orphanSwept 0 (byte ((src.map (·.val)).getD 255)) w))) ∧
  ∀ (sense : Sensors) (c : ArmTask) (s : State), s.transport.current = some c →
    (sense.discPresent = false → gripAtSpindle sense s = armFail .gripMiss (setGripper true sense s)) ∧
    (sense.discPresent = true → sense.thicknessTwo = false → gripAtSpindle sense s = reportPick (setGripper true sense s)) ∧
    (sense.discPresent = true → sense.thicknessTwo = true → ∃ t, gripAtSpindle sense s = t ∧
      t.transport.current = some { c with unreported := true, phase := .shake 1 } ∧ t.transport.timer = some s.port.timeBase ∧
      t.transport.gripperClosed = true ∧ t.transport.discPresent = true ∧ t.transport.thicknessTwo = true ∧
      t.jobs = s.jobs ∧ t.roster = s.roster ∧ t.lanes = s.lanes) ∧
    (sense.discPresent = true → releaseAtSpindle sense s = armFail .releaseFail (setGripper false sense s)) ∧
    (sense.discPresent = false → c.cargo ≠ none →
      let k := c.task.dest
      let m := match c.cargo with | some (.pair _) => 2 | _ => 1
      ∃ t, releaseAtSpindle sense s = t ∧
        (t.entry k).count = min (s.station k).capacity ((s.entry k).count + m) ∧
        (t.entry k).full = ((s.entry k).full || decide ((s.station k).capacity ≤ (s.entry k).count + m)) ∧
        (∀ q, q ≠ k → t.entry q = s.entry q) ∧ t.transport.timer = none ∧ t.transport.gripperClosed = false ∧
        t.transport.current = some { c with cargo := none, finished := true, phase := .rise true } ∧
        (∀ src, c.cargo = some (.orphan src) → t.roster = s.roster ∧ t.jobs = s.jobs ∧ t.lanes = s.lanes) ∧
        (∀ i r, c.cargo = some (.pair i) → s.disc i = some r →
          t.disc i = some { r with location := .reject, droppedAt := some (r.droppedAt.getD s.port.timeBase) } ∧
          (∀ q, q ≠ i → t.disc q = s.disc q) ∧ t.jobs = s.jobs ∧ t.lanes = s.lanes) ∧
        (∀ i r, c.cargo = some (.disc i) → k = stationOutput → s.disc i = some r →
          t.disc i = some { r with
            outcome := .good, location := .output, droppedAt := some (r.droppedAt.getD s.port.timeBase) } ∧
          (∀ q, q ≠ i → t.disc q = s.disc q) ∧
          (∀ j : SlotNo, r.slot = BitVec.ofNat 8 j.val → (t.job j).good = (s.job j).good + 1 ∧
            (t.job j).inFlight = (s.job j).inFlight - 1 ∧ ∀ q, q ≠ j → t.job q = s.job q) ∧
          (∀ n : LaneNo, r.laneUsed = BitVec.ofNat 8 n.val →
            t.lane n = { s.lane n with counters := { (s.lane n).counters with
              discsGood := (s.lane n).counters.discsGood.advance max16 } } ∧ ∀ q, q ≠ n → t.lane q = s.lane q))) ∧
    ∀ i r, sense.discPresent = false → c.cargo = some (.disc i) → c.task.dest = stationReject → s.disc i = some r →
      ∃ t, releaseAtSpindle sense s = t ∧
        t.disc i = some { r with location := .reject, droppedAt := some (r.droppedAt.getD s.port.timeBase) } ∧
        (t.entry stationReject).count = min (s.station stationReject).capacity ((s.entry stationReject).count + 1) ∧
        (t.entry stationReject).full = ((s.entry stationReject).full ||
          decide ((s.station stationReject).capacity ≤ (s.entry stationReject).count + 1)) ∧
        (∀ k, k ≠ stationReject → t.entry k = s.entry k) ∧ t.transport.timer = none ∧ t.transport.gripperClosed = false ∧
        t.transport.current = some { c with cargo := none, finished := true, phase := .rise true } ∧ t.lanes = s.lanes

/-- LIFT_TOP_TRIP, SWING_HOME_TRIP, HOME_FAIL and MOVE_TIMEOUT (R138, R139, R142, R143, R145, R146): the lift step of a homing leads to
the swing step, timed anew; its end makes the positions 0 and valid, releases the printer with the ribbon-out level read (R161),
and begins the sweep in STARTING or takes up the task; a homing step or a move that takes 5,000 ms leaves the arm FAULTED with its cause,
the task's first fault counted, and the part FAULTED in STARTING. ARM_FAULT gives its cause, the task's kind and requester, the station
the move is bound for (log 18, DEDUCED), the fault count and whether the gripper reads a disc (widths: log 59, PRESUMED). The time base
goes to a limit (log 7, DESIGN CHOICE); else nothing happens (log 4, DESIGN CHOICE). As the sweep begins an UNKNOWN lane sends TRAY QUERY,
or its link DOWN is FAULTED, or waits for a tray command (log 10, DEDUCED), and the IDLE arm carries a disc that the gripper reads to the
reject spindle, else grips at the printer, then serves the queue (the sweep's tasks are the printer's requester's, log 20, DEDUCED, and
begin with free readings, log 53, DESIGN CHOICE); the sweep, its steps done and every lane at rest, ends in RUNNING with a dispatch pass
(R88, R146). After a homing in RUNNING a disc held goes to its destination, a LOAD whose disc was REJECTED meanwhile becomes the reject
carry and its lane is told (R66, R138; log 77, DESIGN CHOICE), a thickness test makes three new shakes, with no reading before them (log
69, DESIGN CHOICE), and a pick or an exchange starts over. A second fault disposes of the task: a disc held is REJECTED with
TRANSPORT_FAULT and carried off; a LOAD ends its reservation; a lane's UNLOAD leaves the lane FAULTED with its disc, DRIVE_FAULT where it
was PASSED, credits 0 and FIFO empty (R79); others are kept. A pair still shaken is reported there (log 29, DEDUCED); the fault count
stays 1 from the first fault on (log 17, DEDUCED); a finished task ends after the homing (log 30, DEDUCED). -/
def Obligations.HomingAndTimeoutTaken : Prop :=
  (∀ (sense : Sensors) (s : State),
      (s.transport.arm = .homing → s.transport.homing = some .lift →
        exec .liftTopTrip s = .next { s with
          transport := { s.transport with homing := some .swing, timer := some s.port.timeBase } }) ∧
      (s.transport.arm ≠ .homing ∨ s.transport.homing ≠ some .lift → exec .liftTopTrip s = .next s) ∧
      (s.transport.arm ≠ .homing ∨ s.transport.homing ≠ some .swing → exec (.swingHomeTrip sense) s = .next s) ∧
      (s.transport.arm = .homing → s.transport.homing = some .swing →
        ∃ u, exec (.swingHomeTrip sense) s = .next (settle (
            if s.port.part = .starting ∧ s.transport.sweep = none then beginSweep (releasePrinter u)
            else resumeTask sense (releasePrinter u))) ∧
          u.transport = { s.transport with posValid := true, liftPos := 0, swingPos := 0, shownLift := 0, shownSwing := 0,
                                           homing := none, timer := none } ∧
          u.pins = { s.pins with ribbonOut := if s.printer.halt then sense.ribbonOut else s.pins.ribbonOut } ∧
          u = { s with port := u.port, transport := u.transport, pins := u.pins, host := u.host }) ∧
      (s.transport.arm ≠ .homing ∨ s.transport.timer = none → exec .homeFail s = .next s) ∧
      ∀ t, s.transport.arm = .homing → s.transport.timer = some t →
        let fails := fun (x u : State) (task : List Byte) => FailsStarting (logEntry .armFault 0
          (byte ArmCause.homeFail.code ++ task ++ byte (if s.transport.discPresent then 1 else 0)) x) u
        ∃ x u, exec .homeFail s = .next (settle u) ∧
          x.transport = { s.transport with
            arm := .faulted, posValid := false, homing := none, timer := none, lastCause := some .homeFail } ∧
          x.port.part = s.port.part ∧ x.port.timeBase = min timeMax (max s.port.timeBase (t + 5000000)) ∧
          x = { s with port := x.port, transport := x.transport, host := x.host } ∧
          (s.transport.current = none → fails x u [0, 0, 0, 0, 0]) ∧
          (∀ c, s.transport.current = some c → ∃ k, MoveLeadsTo c k ∧
            fails x u (byte c.task.kind.code ++ byte c.task.requester.val ++ byte k.val ++ half c.task.faults)) ∧
          u.transport = x.transport ∧
          u.port.part = (if s.port.part = .starting then .faulted else s.port.part) ∧
          u.port.timeBase = min timeMax (max s.port.timeBase (t + 5000000)) ∧
          u = { s with port := u.port, transport := u.transport, host := u.host }) ∧
  (∀ s : State,
    let rested := ∀ n, (s.lane n).state = .idle ∨ (s.lane n).state = .offline ∨ (s.lane n).state = .faulted
    (s.port.part = .starting → s.transport.sweep = some ⟨true, true⟩ → rested →
      ∃ u, takeSignal .sweepTest s = u ∧ u.port.part = .running ∧ u.transport = { s.transport with sweep := none } ∧
        u.signals = s.signals ++ [.dispatch, .stalls] ∧
        u = { s with port := u.port, transport := u.transport, host := u.host, signals := u.signals }) ∧
    (s.port.part ≠ .starting ∨ s.transport.sweep ≠ some ⟨true, true⟩ ∨ ¬ rested → takeSignal .sweepTest s = s) ∧
    ∀ n, ((s.lane n).state ≠ .unknown → beginInventory s n = s) ∧
      ((s.lane n).state = .unknown → (s.link n).up = false → beginInventory s n = faultLane n .linkDown none s) ∧
      ((s.lane n).state = .unknown → (s.link n).up = true → (s.lane n).waits.tray = none → beginInventory s n =
        (s.setLink n { s.link n with outbound := (s.link n).outbound ++ [.tray .query] }).setLane n { s.lane n with
          waits := { (s.lane n).waits with tray := some ⟨.query, .inventory, s.port.timeBase⟩ } }) ∧
      (∀ w, (s.lane n).state = .unknown → (s.link n).up = true → (s.lane n).waits.tray = some w → beginInventory s n =
        s.setLane n { s.lane n with waits := { (s.lane n).waits with tray := some { w with purpose := .stale true } } })) ∧
  (∀ s : State,
    let v := allLanes.foldl beginInventory { s with transport := { s.transport with sweep := some ⟨false, false⟩ } }
    (beginSweep s).transport = { v.transport with current := none, arm := .idle, timer := none } ∧
    beginSweep s = { v with
      port := (beginSweep s).port, transport := (beginSweep s).transport, host := (beginSweep s).host
      signals := v.signals ++ [.select, .stopTest, .sweepTest] }) ∧
  (∀ (w : Sweep) (s : State), s.port.part ≠ .stopped → s.transport.arm = .idle → s.transport.current = none →
    s.transport.sweep = some w →
    let begins := fun (dest : Bool) (task : Task) (cargo : Option Cargo) (sweep : Sweep) =>
      ∃ u, takeSignal .select s = startApproach dest s.sensed u ∧ u.transport = { s.transport with
          arm := .moving, current := some ⟨task, cargo, .lift dest, false, false, false, false⟩, sweep := some sweep } ∧
        u = { s with port := u.port, transport := u.transport, host := u.host, draws := s.draws + 1 }
    (w.gripperDone = false → s.transport.discPresent = true →
      begins true ⟨.sweepGripper, requesterPrinter, stationReject, stationReject, 0, 0⟩ (some (.orphan none)) w) ∧
    (w.gripperDone = true ∨ s.transport.discPresent = false → w.printerDone = false →
      begins false ⟨.sweepPrinter, requesterPrinter, stationPrinter, stationReject, 0, 0⟩ none { w with gripperDone := true })) ∧
  (∀ (cause : ArmCause) (c : ArmTask) (s : State), s.transport.current = some c →
    ∃ k w x u, armFail cause s = u ∧ MoveLeadsTo c k ∧
      w.transport = { s.transport with
        posValid := false, timer := none
        current := some (if c.task.faults = 0 then { c with task := { c.task with faults := 1 } } else c) } ∧
      w = { s with port := w.port, transport := w.transport, host := w.host } ∧
      let v := if c.task.faults = 0 then w else disposeTask w
      x.transport = { v.transport with arm := .faulted, lastCause := some cause } ∧ x.port.part = v.port.part ∧
      x = { v with port := x.port, transport := x.transport, host := x.host } ∧
      FailsStarting (logEntry .armFault 0 (byte cause.code ++ byte c.task.kind.code ++ byte c.task.requester.val ++ byte k.val ++
        half 1 ++ byte (if s.transport.discPresent then 1 else 0)) x) u ∧
      u.transport = x.transport ∧ u.port.part = (if v.port.part = .starting then .faulted else v.port.part) ∧
      u = { v with port := u.port, transport := u.transport, host := u.host }) ∧
  (∀ (c : ArmTask) (s : State), s.transport.current = some c →
    let t := disposeTask s
    let dest := s.entry c.task.dest
    (c.finished = true ∨ (∃ i, c.cargo = some (.pair i)) ∨ (∃ k, c.cargo = some (.orphan k)) → t = s) ∧
    (∀ i, c.finished = false → c.cargo = some (.disc i) →
      t = makeRejectCarry (decide (dest.occupancy = .occupied ∧ dest.disc = none)) (decideRejected i .transportFault 0 id s)) ∧
    (c.finished = false → c.cargo = none →
      (c.unreported = true → t = { reportPair s with transport := { (reportPair s).transport with timer := none } }) ∧
      (c.unreported = false → c.task.kind ∉ [.load, .unloadLane] → t = s) ∧
      ∀ n d, c.unreported = false → c.lane = some n → (s.lane n).disc = some d →
        (c.task.kind = .load → ∃ v, ReservationEnds n d v t ∧
          (∀ k, v.entry k = if k = c.task.dest ∧ isTray k = true then { s.entry k with claim := false } else s.entry k) ∧
          v.transport = { s.transport with current := none, map := v.transport.map } ∧
          v = { s with port := v.port, transport := v.transport, host := v.host }) ∧
        ∀ x, c.task.kind = .unloadLane → s.disc d.index = some x → x.outcome = .passed ∨ x.outcome = .rejected →
          t.transport.current = none ∧ (t.lane n).state = .faulted ∧ (t.lane n).disc = some d ∧ (t.lane n).orphan = false ∧
          (t.lane n).inTray = (s.lane n).inTray ∧ (∀ i, i ≠ d.index → t.disc i = s.disc i) ∧
          (x.outcome = .passed → (t.lane n).credits = 0 ∧ (t.lane n).speedReq = none ∧ ((s.lane n).verify.stage = .off →
            (t.lane n).fifo = if holdsDiscarded s n then (s.lane n).fifo else [])) ∧
          t.disc d.index = some (if x.outcome = .passed then { x with outcome := .rejected, reason := some .driveFault } else x))) ∧
  (∀ (sense : Sensors) (s : State),
    let idle := fun (sweep : Option Sweep) (u : State) =>
      u.transport = { s.transport with current := none, arm := .idle, timer := none, sweep := sweep } ∧
      u = { s with
        port := u.port, transport := u.transport, host := u.host, signals := s.signals ++ [.select, .stopTest, .sweepTest] }
    (s.transport.current = none → idle s.transport.sweep (resumeTask sense s)) ∧
    ∀ c, s.transport.current = some c →
      idle (match c.task.kind with
        | .sweepGripper => s.transport.sweep.map fun x => { x with gripperDone := true }
        | .sweepPrinter => s.transport.sweep.map fun x => { x with printerDone := true }
        | _ => s.transport.sweep) (endTask s) ∧
      ∃ w, w.transport = { s.transport with arm := .moving } ∧ w = { s with port := w.port, transport := w.transport, host := w.host } ∧
        (c.finished = true → c.task.kind ≠ .sweepPrinter → resumeTask sense s = endTask (tellClosed sense.ribbonOut w)) ∧
        (c.finished = true → c.task.kind = .sweepPrinter → SweptTray (tellClosed sense.ribbonOut w) (resumeTask sense s)) ∧
        (c.finished = false → c.redirect = true → resumeTask sense s = startApproach true sense (makeRejectCarry false w)) ∧
        (c.finished = false → c.redirect = false →
          (c.cargo ≠ none → resumeTask sense s = startApproach true sense (tellClosed sense.ribbonOut w)) ∧
          (c.cargo = none → c.unreported = false → resumeTask sense s = startApproach false sense w) ∧
          (c.cargo = none → c.unreported = true → ∃ u, resumeTask sense s = u ∧ u.transport = { s.transport with
            arm := .moving, current := some { c with phase := .shake 1 }, timer := some s.port.timeBase } ∧
            u = { s with port := u.port, transport := u.transport, host := u.host }))) ∧
  ∀ (t : Nat) (s : State),
    (s.transport.arm = .moving → s.transport.timer = some t →
      exec .moveTimeout s = .next (settle (armFail .moveTimeout (s.advanceTo (t + 5000000)))) ∧
      ∀ c, s.transport.current = some c → c.task.faults = 0 →
        ∃ u, armFail .moveTimeout (s.advanceTo (t + 5000000)) = u ∧
          u.transport = { s.transport with
            arm := .faulted, posValid := false, timer := none, lastCause := some .moveTimeout
            current := some { c with task := { c.task with faults := 1 } } } ∧
          u.port.part = (if s.port.part = .starting then .faulted else s.port.part) ∧
          u = { s with port := u.port, transport := u.transport, host := u.host }) ∧
    (s.transport.arm ≠ .moving ∨ s.transport.timer = none → exec .moveTimeout s = .next s)

/-- The arm's choice (R129; R131, R134 to R137): an IDLE arm of a part that is not STOPPED takes a task wherever a queued one is eligible:
a queued UNLOAD(printer) that is, else the oldest eligible lane UNLOAD, else the oldest eligible LOAD; of tasks of one position the lower
requester's. It leaves the queue, is the current task of the MOVING arm, claims the tray it is bound for (R127), and its first move
begins, with readings that are free values (log 53); with none eligible nothing happens. A LOAD is eligible while its spindle is not EMPTY
and its tray neither claimed nor OCCUPIED; an UNLOAD to the printer while its tray is EMPTY with no claim and the printer is EMPTY; one to
a spindle while that is not FULL, or in STARTING (R146). A move begins with its lift, its swing or its arrival, whichever is first not yet
at its target; a carry to a FULL spindle waits, but for an orphan in STARTING, and begins where the flag is clear at a selection. Each
change of the arm's state writes the transport status where an item it shows changes (R130). After a rise the tray is told to close, and
the task ends, one of the sweep at the printer with its tray marked EMPTY (R146), turns to the reject spindle or goes on. A disc decided
REJECTED while a LOAD carries it turns the task above the tray, and marks it in a move and where the arm does not move: its lane is told
when the arm takes the task up again (R66, R138, R140; log 77). That a move after a pick keeps its timer, which every other rise drops, is
log 51 (DEDUCED); that a disc rejected in a move is turned at the step's end, log 42 (DEDUCED); that the printer is told after the rise,
log 32 (DEDUCED). -/
def Obligations.SelectionTakesOldestEligible : Prop :=
  (∀ (t : Task) (s : State), selectTask s = some t →
    (∃ r, s.queued r = some t) ∧ eligible s t = true ∧
    (∀ r q, s.queued r = some q → eligible s q = true →
      (t.kind = .unloadLane → q.kind ≠ .unloadPrinter) ∧
      (t.kind = .load → q.kind ≠ .unloadPrinter ∧ q.kind ≠ .unloadLane) ∧
      (q.kind = t.kind → t.position < q.position ∨ (t.position = q.position ∧ t.requester ≤ q.requester)))) ∧
  (∀ (r : RequesterNo) (q : Task) (s : State), s.queued r = some q → q.kind ∈ [.load, .unloadLane, .unloadPrinter] →
    eligible s q = true → ∃ t, selectTask s = some t) ∧
  (∀ s : State, s.port.part ≠ .stopped → s.transport.arm = .idle → s.transport.current = none →
    (∀ w, s.transport.sweep = some w → w.printerDone = true ∧ (w.gripperDone = true ∨ s.transport.discPresent = false)) →
    (selectTask s = none → takeSignal .select s = s) ∧
    ∀ t, selectTask s = some t →
      ∃ u, takeSignal .select s = startApproach false s.sensed u ∧ u.transport.arm = .moving ∧
        u.transport.current = some ⟨t, none, .lift false, false, false, false, false⟩ ∧ u.queued t.requester = none ∧
        (∀ r, r ≠ t.requester → u.queued r = s.queued r) ∧
        (∀ k, u.entry k = if k = t.dest ∧ isTray k = true then { s.entry k with claim := true } else s.entry k) ∧
        u = { s with port := u.port, transport := u.transport, host := u.host, draws := s.draws + 1 }) ∧
  (∀ (dest : Bool) (sense : Sensors) (c : ArmTask) (s : State), s.transport.current = some c →
    let t := startApproach dest sense s
    let timed := if s.transport.timer = none then some s.port.timeBase else s.transport.timer
    let stands := fun phase timer => t = { s with port := t.port, transport := t.transport, host := t.host } ∧
      t.transport = { s.transport with current := some { c with phase := phase }, timer := timer }
    let full := dest = true ∧ (s.entry c.task.dest).full = true ∧
      ¬ (s.port.part = .starting ∧ ∃ k, c.cargo = some (.orphan k))
    let there := s.transport.swingPos = (s.station (c.target dest)).swing
    (full → stands .waitFull none) ∧ (¬ full → s.transport.liftPos ≠ 0 → stands (.lift dest) timed) ∧
    (¬ full → s.transport.liftPos = 0 → ¬ there → stands (.swing dest) timed) ∧
    (¬ full → s.transport.liftPos = 0 → there →
      t = arriveAt dest sense { s with transport := { s.transport with timer := timed } })) ∧
  (∀ (sense : Sensors) (c : ArmTask) (s : State), s.transport.current = some c →
    let carries := c.task.kind = .load ∧ c.phase = .rise false ∧ c.finished = false
    ∃ w, w = (if carries then s else { s with transport := { s.transport with timer := none } }) ∧
      let told := tellClosed sense.ribbonOut w
      (c.finished = true → c.task.kind ≠ .sweepPrinter → afterRise sense s = endTask told) ∧
      (c.finished = true → c.task.kind = .sweepPrinter → SweptTray told (afterRise sense s)) ∧
      (c.finished = false → c.redirect = true → afterRise sense s = turnToReject told) ∧
      (c.finished = false → c.redirect = false → afterRise sense s = startApproach true sense told)) ∧
  (∀ (out : Bool) (c : ArmTask) (s : State), s.transport.current = some c →
    (c.tellClose = false → tellClosed out s = s) ∧
    (c.tellClose = true → ∃ w, w.transport = { s.transport with current := some { c with tellClose := false } } ∧
      w = { s with port := w.port, transport := w.transport, host := w.host } ∧
      (∀ n, c.task.kind ∈ [.load, .unloadLane] → c.lane = some n → tellClosed out s = laneToldClose n w) ∧
      (c.task.kind ∈ [.unloadPrinter, .sweepPrinter] → tellClosed out s = printerTaken out w))) ∧
  (∀ (n : LaneNo) (s : State), (s.link n).up = true →
    let closes := fun (l : Lane) (why : TrayPurpose) =>
      laneToldClose n s = (s.setLink n { s.link n with outbound := (s.link n).outbound ++ [.tray .close] }).setLane n
        { l with waits := { l.waits with tray := some ⟨.close, why, s.port.timeBase⟩ } }
    ((s.lane n).state = .trayLoad → closes (s.lane n) .loadClose) ∧
    ((s.lane n).state = .trayUnload → closes { s.lane n with disc := none, orphan := false, inTray := false } .unloadClose)) ∧
  (∀ s : State,
    let m := makeRejectCarry false s
    turnToReject s = startApproach true
      ⟨Config.discSensor m.draws, Config.thicknessSensor m.draws, Config.ribbonSensor m.draws⟩ { m with draws := m.draws + 1 } ∧
    (s.transport.current = none → takeSignal .armRejected s = s) ∧
    ∀ c, s.transport.current = some c →
      let turns := c.task.kind = .load ∧ isTray c.task.dest = true ∧
        ∃ i x, c.cargo = some (.disc i) ∧ s.disc i = some x ∧ x.outcome = .rejected
      (¬ turns → takeSignal .armRejected s = s) ∧
      (turns → (s.transport.arm = .moving → c.phase = .waitTray true → takeSignal .armRejected s = turnToReject s) ∧
        (s.transport.arm ≠ .moving ∨ c.phase ≠ .waitTray true → ∃ u, takeSignal .armRejected s = u ∧
          u.transport = { s.transport with current := some { c with redirect := true } } ∧
          u = { s with port := u.port, transport := u.transport, host := u.host }))) ∧
  (∀ s : State, s.port.part = .stopped → takeSignal .select s = s) ∧
  (∀ (c : ArmTask) (s : State), s.port.part ≠ .stopped → ArmAt c .waitFull s →
    let waits := (s.entry c.task.dest).full = true ∧ ¬ (s.port.part = .starting ∧ ∃ k, c.cargo = some (.orphan k))
    (waits → takeSignal .select s = s) ∧
    (¬ waits → takeSignal .select s = startApproach true
      ⟨Config.discSensor s.draws, Config.thicknessSensor s.draws, Config.ribbonSensor s.draws⟩ { s with draws := s.draws + 1 })) ∧
  (∀ (f : Transport → Transport) (s : State),
    let t : State := { s with transport := f s.transport }
    (transportBlock t.transport = transportBlock s.transport → changeArm f s = t) ∧
    (transportBlock t.transport ≠ transportBlock s.transport → changeArm f s = report 0x4200 (transportBlock t.transport) t)) ∧
  (∀ (f : ArmTask → ArmTask) (phase : ArmPhase) (s : State), setPhase phase s = updTask (fun x => { x with phase := phase }) s ∧
    updTask f s = changeArm (fun t => { t with current := t.current.map f }) s) ∧
  ∀ (t : Task) (s : State),
    (t.kind = .load → (eligible s t = true ↔
      (s.entry t.source).empty = false ∧ (s.entry t.dest).claim = false ∧ (s.entry t.dest).occupancy ≠ .occupied)) ∧
    (t.kind ≠ .load → t.dest = stationPrinter → (eligible s t = true ↔
      (s.entry stationPrinter).claim = false ∧ (s.entry stationPrinter).occupancy = .empty ∧ s.printer.state = .empty)) ∧
    (t.kind ≠ .load → t.dest ≠ stationPrinter →
      (eligible s t = true ↔ (s.entry t.dest).full = false ∨ s.port.part = .starting))

/-- The drive of the three motors (R144, R148): with the STOP input asserted every switch is off; with it negated an arm that is UNHOMED
or STOPPED has its motors off, one that is IDLE or FAULTED holds them at the idle hold duty, one that is HOMING or MOVING steps one axis
at most and holds the other (log 37, DEDUCED for the axis that does not step); the printer tray's motor steps in a move, is off with
the position LOST, and is held otherwise. In each leg of a bridge the high and the low switch are never on together, and one turns on
only after the other has been off for the dead time; a motor that is off has every switch off. Which switch the step sequence or the
hold wants is a free value, and the legs go on in the microseconds in which no command is taken (log 37). -/
def Obligations.MotorsDrivenByState : Prop :=
  (∀ s : State,
    let hold := MotorDrive.held s.transport.holdDuty
    (s.pins.stop = true → liftDrive s = .off ∧ swingDrive s = .off ∧ trayDrive s = .off) ∧
    (s.pins.stop = false →
      (s.transport.arm = .unhomed ∨ s.transport.arm = .stopped → liftDrive s = .off ∧ swingDrive s = .off) ∧
      (s.transport.arm = .idle ∨ s.transport.arm = .faulted → liftDrive s = hold ∧ swingDrive s = hold) ∧
      (s.transport.arm = .homing → s.transport.homing = some .lift → liftDrive s = .stepping ∧ swingDrive s = hold) ∧
      (s.transport.arm = .homing → s.transport.homing = some .swing → liftDrive s = hold ∧ swingDrive s = .stepping) ∧
      (∀ c dest, ArmAt c (.swing dest) s → liftDrive s = hold ∧ swingDrive s = .stepping) ∧
      (∀ c dest k, ArmAt c (.lift dest) s ∨ ArmAt c (.descend dest) s ∨ ArmAt c (.search dest) s ∨ ArmAt c (.rise dest) s ∨
        ArmAt c (.shake k) s → liftDrive s = .stepping ∧ swingDrive s = hold) ∧
      (∀ c dest, ArmAt c (.waitTray dest) s ∨ ArmAt c .waitFull s → liftDrive s = hold ∧ swingDrive s = hold) ∧
      (s.printer.move ≠ none → trayDrive s = .stepping) ∧
      (s.printer.move = none → trayDrive s = if s.printer.tray = .lost then .off else hold))) ∧
  (∀ (s : State) (m : MotorNo) (k : Fin 4),
    motorDrive s 0 = liftDrive s ∧ motorDrive s 1 = swingDrive s ∧ motorDrive s 2 = trayDrive s ∧
    (motorDrive s m = .off → gates s m k = (false, false)) ∧
    (motorDrive s m ≠ .off → gates s m k = ((s.leg m k).high, (s.leg m k).low)) ∧
    (let t := driveBridges s
     let was := s.leg m k
     let now := t.leg m k
     ¬ (now.high = true ∧ now.low = true) ∧
     (motorDrive s m = .off → now.high = false ∧ now.low = false) ∧
     (was.high = false → now.high = true → was.low = false ∧ s.transport.deadTime ≤ now.lowOff) ∧
     (was.low = false → now.low = true → was.high = false ∧ s.transport.deadTime ≤ now.highOff) ∧
     now.highOff = (if was.high then 0 else min 128 (was.highOff + 16)) ∧
     now.lowOff = (if was.low then 0 else min 128 (was.lowOff + 16)) ∧
     t = { s with bridges := t.bridges, draws := s.draws + 1 })) ∧
  ∀ (c : Instr) (s t : State), isReset c = false → exec c s = .next t → t.bridges = s.bridges

/-! ### The printer (chapters 8 and 9) -/

/-- PRINTER_TRAY_HOME_TRIP, RETRACT_DONE, LINE_ADVANCE_DONE and PRINTER_TRAY_TIMEOUT (R148, R149, R151, R155, R159, R165): the end of each
move of the printer tray, and of one that takes 5,000 ms, at which the time base goes to its limit (log 7, DESIGN CHOICE) and the position
is LOST, with no second fault of a FAULTED printer (log 39, DEDUCED), and a present request that stands waits for CLEAR_PRINTER, as R149
says of a home seek, after any other move too (log 76, DESIGN CHOICE). With no such move under way nothing happens (log 4, DESIGN CHOICE).
A present request that stands in EMPTY, FINISHED or FAULTED is answered with the tray at HOME, or by a home seek, which ends at once where
the home sensor is tripped already: a level no command carries, a free value (log 53). A printer that enters FINISHED queues its unload,
by the disc's outcome and the label's, unless it is queued or begun; one whose disc is taken leaves FINISHED for EMPTY, or with the ribbon
out is FAULTED, PRINTER_FAULT showing FINISHED (log 72, DESIGN CHOICE); a halted one is released to FINISHED or stays EMPTY or FAULTED,
and serves a request that stands (R158, R161). A request in FINISHED waits while a line advance still runs, and its home seek begins at
LINE_ADVANCE_DONE (log 78, DESIGN CHOICE). In STARTING a tray that fails answers a standing request with its loss. -/
def Obligations.PrinterTrayMovesEnd : Prop :=
  (∀ s : State,
    let p := s.printer
    let answered := fun (n : Nat) => ({ s with
      printer := { p with tray := .home, present := false }, signals := s.signals ++ [.presented], draws := n } : State)
    let serves := p.state = .empty ∨ p.state = .finished ∨ p.state = .faulted
    (p.present = false ∨ p.halt = true ∨ ¬ serves → servePresent s = s) ∧
    (p.present = true → p.halt = false → serves →
      (p.tray = .home → servePresent s = answered s.draws) ∧
      (p.tray ≠ .home → p.move ≠ none → servePresent s = s) ∧
      (p.tray ≠ .home → p.move = none →
        (Config.homeSensor s.draws = true → servePresent s = answered (s.draws + 1)) ∧
        (Config.homeSensor s.draws = false → servePresent s = { s with
          printer := { p with move := some .homeSeek, moveStart := s.port.timeBase }, draws := s.draws + 1 })))) ∧
  (∀ s : State,
    let p := s.printer
    let req := requesterPrinter
    let held := s.queued req ≠ none ∨ ∃ c, s.transport.current = some c ∧ c.task.requester = req
    ∃ w dest, finishPrinter s = servePresent w ∧ w.printer = { p with state := .finished } ∧
      (∀ r, r ≠ req → w.queued r = s.queued r) ∧ (held → w.transport = s.transport ∧ w.signals = s.signals) ∧
      (¬ held → w.queued req = some ⟨.unloadPrinter, req, stationPrinter, dest, s.transport.positions, 0⟩ ∧
        w.signals = s.signals ++ [.select] ∧
        w.transport = { s.transport with queue := w.transport.queue, positions := satInc max64 s.transport.positions }) ∧
      ((∀ d, p.disc ≠ some (.disc d)) → dest = stationReject) ∧
      (∀ d x, p.disc = some (.disc d) → s.disc d.index = some x →
        dest = if x.outcome = .passed ∧ p.complete = true then stationOutput else stationReject) ∧
      w = { s with port := w.port, transport := w.transport, printer := w.printer, host := w.host, signals := w.signals }) ∧
  (∀ (out : Bool) (s : State),
    let taken : Printer := { s.printer with disc := none, complete := false }
    let leaves := fun (p : Printer) (w : State) => w.printer = p ∧
      w = { s with port := w.port, printer := w.printer, pins := w.pins, host := w.host, signals := w.signals }
    (s.printer.state ≠ .finished → ∃ w, printerTaken out s = w ∧ leaves taken w ∧ w.pins = s.pins) ∧
    (s.printer.state = .finished → ∃ w, w.pins = { s.pins with ribbonOut := out } ∧
      (out = true → s.printer.halt = false → leaves taken w ∧
        printerTaken out s = servePresent (printerFail .ribbonOut w)) ∧
      (out = false ∨ s.printer.halt = true → leaves { taken with state := .empty } w ∧ .select ∈ w.signals ∧
        printerTaken out s = servePresent w))) ∧
  (∀ s : State,
    (s.printer.halt = false → releasePrinter s = s) ∧
    (s.printer.halt = true → ∃ w, w.printer = { s.printer with halt := false } ∧
      w = { s with port := w.port, printer := w.printer, host := w.host } ∧
      (s.printer.state ∈ [.loaded, .printing, .hotHold, .supplyWait, .finished] → releasePrinter s = finishPrinter w) ∧
      (s.printer.state ∈ [.empty, .faulted] → releasePrinter s = servePresent w))) ∧
  (∀ s : State,
    (s.port.part = .starting → s.printer.present = true → answerLost s = { s with
      printer := { s.printer with present := false }, signals := s.signals ++ [.presentLost] }) ∧
    (s.port.part ≠ .starting ∨ s.printer.present = false → answerLost s = s)) ∧
  ∀ (sample : Sample) (s : State),
    let p := s.printer
    let ends := fun pos => ({ s with printer := { p with tray := pos, move := none } } : State)
    (p.move = some .homeSeek → exec .printerTrayHomeTrip s = .next (settle (servePresent (ends .home)))) ∧
    (p.move ≠ some .homeSeek → exec .printerTrayHomeTrip s = .next s) ∧
    (p.move = some .retract → p.state = .loaded → exec (.retractDone sample) s = .next (settle (printStart sample (ends (.line 0))))) ∧
    (p.move ≠ some .retract ∨ p.state ≠ .loaded → exec (.retractDone sample) s = .next s) ∧
    (p.move = some .advance →
      exec .lineAdvanceDone s = .next (settle (
        if p.state = .printing ∧ p.line = .waiting then tryStrike (ends (.line p.nextLine))
        else servePresent (ends (.line p.nextLine))))) ∧
    (p.move ≠ some .advance → exec .lineAdvanceDone s = .next s) ∧
    (p.move ≠ none → exec .printerTrayTimeout s = .next (settle (answerLost (printerFail .trayTimeout
      ({ s with port := { s.port with timeBase := min timeMax (max s.port.timeBase (p.moveStart + 5000000)) }
                printer := { p with tray := .lost, move := none } }))))) ∧
    (p.move = none → exec .printerTrayTimeout s = .next s)

/-- The print start (R151, R152, R164): the disc's raster is bound and counted in the use table, the counts, the last line's pulse and
period and the history are cleared, the sample is stored, the first four lines' reads are issued, or all of a shorter label, line 0 is
due, to be struck by a LINE_DUE of its own (log 33, DEDUCED), and the record names the raster. The use table counts one more use of the
raster's address, in its entry or in a new one that is not retiring. The tray, the disc, the label's completeness, the fault cause, the
halt mark, the profile, a request and the hold times stay. -/
def Obligations.PrintStartsLabel : Prop :=
  (∀ (a : Nat) (uses : List RasterUse),
    ((∃ o, o ∈ uses ∧ o.address = a) →
      bindUse a uses = uses.map fun o => { o with count := if o.address = a then o.count + 1 else o.count }) ∧
    ((∀ o, o ∈ uses → o.address ≠ a) → bindUse a uses = uses ++ [⟨a, 1, false⟩])) ∧
  ∀ (sample : Sample) (d : DiscRef) (x : DiscRecord) (base lines : Nat) (s : State), s.printer.disc = some (.disc d) →
    (s.job d.slot).raster = some (base, lines) → s.disc d.index = some x →
    ∃ u, printStart sample s = u ∧ u.printer = { s.printer with
        state := .printing, bound := some (base, lines), uses := bindUse base s.printer.uses, sample := sample
        nextLine := 0, nextRead := min 4 lines, linesStruck := 0, starved := 0, stretched := 0, lastPulse := 0, lastPeriod := 0
        newer := List.replicate 1344 false, older := List.replicate 1344 false, line := .waitDue s.port.timeBase
        print := s.printer.print + 1, ribbonPending := false, readFailed := false, strike := none, head := none
        buffer := u.printer.buffer } ∧
      (∀ k, k < 4 → lineSlot u.printer k =
        if k < lines then .reading k 1 s.port.timeBase else lineSlot s.printer k) ∧
      u.disc d.index = some { x with raster := some base } ∧ (∀ i, i ≠ d.index → u.disc i = s.disc i) ∧
      u = { s with port := u.port, roster := u.roster, printer := u.printer, host := u.host }

/-- LINE_DUE and STRIKE_PHASE_END (R153 to R155; R152, R157, R164): a due line with its slot ready is tried, and one without it is
starved. One that waits for its line advance alone is not counted starved. A line's dots are its raster's, with the serial's digits drawn
from the glyph strip ORed in on the overlay's lines (R154); a computed pulse begins the strike's first phase; a phase heats the firing
dots that fired in at most 3 less its number of the two lines before, and a line with no firing dot holds no strobe. The end of a phase
begins the next one of a length above 0, and after the last the line is struck, its dots are the newer history, its pulse, period and
counts are set, and the print goes on or ends. The time base goes to the due time and to the phase's end (log 7, DESIGN CHOICE). Otherwise
nothing happens (log 4, DESIGN CHOICE). After its last line the label ends complete and the printer is FINISHED; before, a ribbon-out or a
failed read kept for the strike's end comes first, else the next read is issued and the tray advances. Either end drops the reads and the
buffer, lets the raster go, with LABEL_RETIRED at count 0 for a retiring address, and sets the record: printed, or REJECTED with
LABEL_INCOMPLETE. That the label's end comes before a ribbon-out, and a ribbon-out before a failed read, is log 34 (DEDUCED). -/
def Obligations.LinesStruck : Prop :=
  (∀ (a : Nat) (uses : List RasterUse) (e : RasterUse),
    (e ∈ releaseUse a uses ↔ 0 < e.count ∧ ∃ o, o ∈ uses ∧ e = if o.address = a then { o with count := o.count - 1 } else o) ∧
    (inUse a uses = true ↔ ∃ o, o ∈ uses ∧ o.address = a ∧ 0 < o.count) ∧
    (isRetiring a uses = true ↔ ∃ o, o ∈ uses ∧ o.address = a ∧ o.retiring = true)) ∧
  (∀ (base lines first period : Nat) (s : State), s.printer.bound = some (base, lines) →
    let p := s.printer
    let t := afterLine first period s
    let unbound : State := { s with printer := { p with
      buffer := Vector.replicate 4 .empty, line := .off, strike := none, head := none, ribbonPending := false, readFailed := false
      uses := releaseUse base p.uses, bound := none } }
    (lines ≤ p.nextLine → t = finishPrinter (endComplete s)) ∧
    (p.nextLine < lines → p.ribbonPending = true → t = printerFail .ribbonOut s) ∧
    (p.nextLine < lines → p.ribbonPending = false → p.readFailed = true → t = endOnRead s) ∧
    (p.nextLine < lines → p.ribbonPending = false → p.readFailed = false →
      let q := if p.nextRead < lines then
        { (setSlot p.nextRead (.reading p.nextRead 1 s.port.timeBase) s).printer with nextRead := p.nextRead + 1 } else p
      t = { s with printer := { q with
        line := .waitDue (first + period), move := some .advance, moveStart := s.port.timeBase } }) ∧
    endBinding s = (if isRetiring base p.uses = true ∧ inUse base (releaseUse base p.uses) = false then
      logEntry .labelRetired 0 (dword base) unbound else unbound) ∧
    endOnRead s = finishPrinter (endIncomplete s) ∧
    ∀ d x, p.disc = some (.disc d) → s.disc d.index = some x →
      (∃ u, endComplete s = u ∧ u.printer = { unbound.printer with complete := true } ∧
        u.disc d.index = some { x with printed := true, printedAt := some (x.printedAt.getD s.port.timeBase) } ∧
        (∀ i, i ≠ d.index → u.disc i = s.disc i) ∧
        u = { s with port := u.port, roster := u.roster, printer := u.printer, host := u.host }) ∧
      (x.outcome = .passed → ∃ u, endIncomplete s = u ∧ u.printer = unbound.printer ∧ u.transport = s.transport ∧
        u.disc d.index = some { x with outcome := .rejected, reason := some .labelIncomplete } ∧
        (∀ i, i ≠ d.index → u.disc i = s.disc i) ∧
        ∀ j : SlotNo, x.slot = BitVec.ofNat 8 j.val → (u.job j).rejected = satInc max32 (s.job j).rejected ∧
          (u.job j).inFlight = (s.job j).inFlight - 1)) ∧
  (∀ (job : Job) (r : JobRecord) (serial line : Nat) (bs : List Byte), job.record = some r →
    let dots := composeLine job (some serial) line bs
    let raster := fun (d : Nat) => (bs.getD (d / 8) 0).getLsbD (7 - d % 8)
    let width := orZero (serialWidth r.substs)
    dots.length = 1344 ∧ (r.overlay = none → ∀ d, d < 1344 → dots.getD d false = raster d) ∧
    ∀ o, r.overlay = some o →
      let stride := (o.glyphWidth + 7) / 8
      ∀ d, d < 1344 → (dots.getD d false = true ↔ raster d = true ∨ (o.y ≤ line ∧ line < o.y + o.glyphHeight ∧
        ∃ k c, k < width ∧ c < o.glyphWidth ∧ d = o.x + k * o.glyphWidth + c ∧
          (job.glyphs.getD (serial / 10 ^ (width - 1 - k) % 10 * (o.glyphHeight * stride) + (line - o.y) * stride + c / 8) 0).getLsbD
            (7 - c % 8) = true))) ∧
  (∀ (bs : List Byte) (d : DiscRef) (x : DiscRecord) (pulse t1 t2 period : Nat) (stretched : Bool) (s : State),
    s.printer.disc = some (.disc d) → s.disc d.index = some x →
    strobe s.printer.profile s.printer.sample = .pulse pulse t1 t2 period stretched →
      let k : Strike := ⟨pulse, t1, t2, period, stretched, composeLine (s.job d.slot) x.serial s.printer.nextLine bs⟩
      computeLine bs s = { s with printer := { s.printer with
        strike := some k, line := .striking 1 s.port.timeBase s.port.timeBase, head := headInPhase s.printer k 1 } }) ∧
  (∀ (p : Printer) (k : Strike) (phase : Nat),
    let length := fun (q : Nat) => if q = 1 then k.t2 else if q = 2 then k.t1 - k.t2 else k.pulse - k.t1
    (phase ∈ [1, 2, 3] → k.length phase = length phase) ∧
    (∀ q, phase ∈ [1, 2, 3] →
      (k.next phase = some q ↔ phase < q ∧ q ≤ 3 ∧ 0 < length q ∧ ∀ i, phase < i → i < q → length i = 0)) ∧
    (k.dots.length = 1344 → p.newer.length = 1344 → p.older.length = 1344 →
      (true ∉ k.dots → headInPhase p k phase = none) ∧
      (true ∈ k.dots → ∃ dots, headInPhase p k phase = some dots ∧ dots.length = 1344 ∧ ∀ d, d < 1344 →
        (dots.getD d false = true ↔ k.dots.getD d false = true ∧
          (p.newer.getD d false).toNat + (p.older.getD d false).toNat + phase ≤ 3)))) ∧
  ∀ (sample : Sample) (s : State),
    let p := s.printer
    (∀ due, p.state = .printing → p.line = .waitDue due →
      let s1 := s.advanceTo due
      (∀ bs, lineReady p p.nextLine = some bs → exec .lineDue s = .next (settle (tryStrike s1))) ∧
      (∀ bs, lineReady p p.nextLine = some bs → p.move ≠ none → exec .lineDue s = .next (settle { s1 with
        printer := { p with line := .waiting } })) ∧
      (lineReady p p.nextLine = none → exec .lineDue s = .next (settle { s1 with
        printer := { p with line := .waiting, starved := satInc max16 p.starved } }))) ∧
    (∀ i bs, lineReady p i = some bs ↔ lineSlot p i = .ready i bs) ∧
    (p.state ≠ .printing ∨ (∀ due, p.line ≠ .waitDue due) → exec .lineDue s = .next s) ∧
    (∀ phase start first k, p.line = .striking phase start first → p.strike = some k →
      let s1 := s.advanceTo (start + k.length phase)
      (∀ q, k.next phase = some q → exec (.strikePhaseEnd sample) s = .next (settle { s1 with
        printer := { p with line := .striking q s1.port.timeBase first, head := headInPhase p k q } })) ∧
      (k.next phase = none →
        exec (.strikePhaseEnd sample) s = .next (settle (afterLine first k.period (lineStruck k sample s1))) ∧
        (lineStruck k sample s1).printer.newer = k.dots ∧ (lineStruck k sample s1).printer.older = p.newer ∧
        (lineStruck k sample s1).printer.sample = sample ∧
        (lineStruck k sample s1).printer.linesStruck = p.linesStruck + 1 ∧
        (lineStruck k sample s1).printer.nextLine = p.nextLine + 1 ∧
        (lineStruck k sample s1).printer.lastPulse = k.pulse ∧ (lineStruck k sample s1).printer.lastPeriod = k.period ∧
        (lineStruck k sample s1).printer.stretched = (if k.stretched then satInc max16 p.stretched else p.stretched) ∧
        lineSlot (lineStruck k sample s1).printer p.nextLine = .empty)) ∧
    (p.strike = none ∨ (∀ phase start first, p.line ≠ .striking phase start first) → exec (.strikePhaseEnd sample) s = .next s)

/-- LINE_READ_DONE and LINE_READ_TIMEOUT (R152, R153): a good read makes its slot ready and strikes a line that waits for it; a failed
one is issued again up to the third attempt, which ends the label. A good read strikes only a line that waits for it (log 34, DEDUCED).
A completion of no live read is discarded, and so is the timeout of one (log 4, DESIGN CHOICE); at a timeout the time base goes to the
limit (log 7, DESIGN CHOICE). -/
def Obligations.LineReadsTaken : Prop :=
  ∀ (print line attempt : Nat) (s : State),
    (∀ result, liveLineRead s.printer print line attempt = none →
      exec (.lineReadDone print line attempt result) s = .next s ∧ exec (.lineReadTimeout print line attempt) s = .next s) ∧
    ∀ t, liveLineRead s.printer print line attempt = some t →
      (∀ bs, ∃ u, exec (.lineReadDone print line attempt (.data bs)) s = .next (settle u) ∧
        let ready := setSlot line (.ready line (fitBytes 168 bs)) s
        u = if (s.printer.state = .printing ∧ s.printer.line = .waiting) ∧ line = s.printer.nextLine then tryStrike ready
          else ready) ∧
      (∀ timed : Bool,
        let c := if timed then Instr.lineReadTimeout print line attempt else .lineReadDone print line attempt .error
        let s1 := if timed then s.advanceTo (t + 50000) else s
        (attempt < 3 → exec c s = .next (settle (setSlot line (.reading line (attempt + 1) s1.port.timeBase) s1))) ∧
        (3 ≤ attempt → isStriking s.printer = true → exec c s = .next (settle
          { s1 with printer := { s.printer with readFailed := true } })) ∧
        (3 ≤ attempt → isStriking s.printer = false → exec c s = .next (settle (endOnRead s1))))

/-- HOT_HOLD_SAMPLE, SUPPLY_WAIT_SAMPLE, HEAD_HOT, SUPPLY_LOW and RIBBON_OUT (R155, R156, R159, R161): a line's strobe computation enters
HOT_HOLD, with HEAD_HOT_HOLD logged (the widths of Tq and Tmax are log 59, PRESUMED), or SUPPLY_WAIT, or fails the printer with SENSOR; a
resumed print makes it anew. A hold samples every 10 ms or 1 ms; a sensor fault fails the print, a head at Tmax - 20 or below, or a supply
at Vmin + 200 or above, takes it up again, and a hold of 30 s or 500 ms fails it; while halted, or in another state, nothing happens (log
4, DESIGN CHOICE). The time base goes to each sample's and limit's time (log 7, DESIGN CHOICE). A ribbon-out is kept as a level (log 11,
DESIGN CHOICE); a FINISHED, FAULTED or halted printer takes no more notice, a strike in progress keeps it for its end, and otherwise the
printer fails with RIBBON_OUT and serves a present request that stands (log 52, DEDUCED). A ribbon found out at a line's strobe
computation, after a release or a RUN, fails it likewise before the computation (log 64, DEDUCED); a level last met asserted is read anew
there, a free value, since no command carries its negation (logs 11 and 53). -/
def Obligations.HoldsAndRibbonTaken : Prop :=
  (∀ (sample : Sample) (s : State),
      let p := s.printer
      let took := fun (wait : Nat) =>
        ({ s.advanceTo (p.sampledAt + wait) with
            printer := { p with sample := sample, sampledAt := (s.advanceTo (p.sampledAt + wait)).port.timeBase } } : State)
      (p.state = .hotHold → p.halt = false →
        (sensorFault sample.thermistor.toNat = true →
          exec (.hotHoldSample sample) s = .next (settle (printerFail .sensor (took 10000)))) ∧
        (sensorFault sample.thermistor.toNat = false → temperature p.profile sample.thermistor.toNat ≤ p.profile.tmax - 20 →
          exec (.hotHoldSample sample) s = .next (settle (resumePrint (took 10000)))) ∧
        (sensorFault sample.thermistor.toNat = false → p.profile.tmax - 20 < temperature p.profile sample.thermistor.toNat →
          exec (.hotHoldSample sample) s = .next (settle (took 10000))) ∧
        exec .headHot s = .next (settle (printerFail .headHot (s.advanceTo (p.holdStart + 30000000))))) ∧
      (p.state = .supplyWait → p.halt = false →
        (sensorFault sample.thermistor.toNat = true →
          exec (.supplyWaitSample sample) s = .next (settle (printerFail .sensor (took 1000)))) ∧
        (sensorFault sample.thermistor.toNat = false → p.profile.vmin + 200 ≤ 8 * sample.supply.toNat →
          exec (.supplyWaitSample sample) s = .next (settle (resumePrint (took 1000)))) ∧
        (sensorFault sample.thermistor.toNat = false → 8 * sample.supply.toNat < p.profile.vmin + 200 →
          exec (.supplyWaitSample sample) s = .next (settle (took 1000))) ∧
        exec .supplyLow s = .next (settle (printerFail .supplyLow (s.advanceTo (p.holdStart + 500000))))) ∧
      (p.halt = true ∨ p.state ≠ .hotHold → exec (.hotHoldSample sample) s = .next s ∧ exec .headHot s = .next s) ∧
      (p.halt = true ∨ p.state ≠ .supplyWait → exec (.supplyWaitSample sample) s = .next s ∧ exec .supplyLow s = .next s)) ∧
  (∀ (bs : List Byte) (d : DiscRef) (s : State), s.printer.disc = some (.disc d) →
    let p := s.printer
    let result := strobe p.profile p.sample
    let held := fun (st : PrinterState) => { p with
      state := st, line := .waiting, holdStart := s.port.timeBase, sampledAt := s.port.timeBase }
    (result = .sensor → computeLine bs s = printerFail .sensor s) ∧
    (∀ tq, result = .hot tq → computeLine bs s = writePrinter { logEntry .headHotHold d.index.val
      (half (BitVec.ofInt 16 tq).toNat ++ half (BitVec.ofInt 16 p.profile.tmax).toNat) s with printer := held .hotHold }) ∧
    (∀ v, result = .lowSupply v → computeLine bs s = writePrinter { s with printer := held .supplyWait })) ∧
  (∀ s : State, ∃ u, resumePrint s = tryStrike u ∧ u.printer = { s.printer with state := .printing } ∧
    u = { s with port := u.port, printer := u.printer, host := u.host }) ∧
  (∀ (bs : List Byte) (s : State), s.printer.move = none → lineReady s.printer s.printer.nextLine = some bs →
    (s.pins.ribbonOut = true → tryStrike s =
      if Config.ribbonSensor s.draws then servePresent (printerFail .ribbonOut { s with draws := s.draws + 1 })
      else computeLine bs { s with pins := { s.pins with ribbonOut := false }, draws := s.draws + 1 }) ∧
    (s.pins.ribbonOut = false → tryStrike s = computeLine bs s)) ∧
  (∀ s : State, s.printer.move ≠ none ∨ lineReady s.printer s.printer.nextLine = none →
    tryStrike s = { s with printer := { s.printer with line := .waiting } }) ∧
  ∀ s : State,
    let t : State := { s with pins := { s.pins with ribbonOut := true } }
    let p := s.printer
    (p.halt = true ∨ p.state = .finished ∨ p.state = .faulted → exec .ribbonOut s = .next (settle t)) ∧
    (p.halt = false → p.state ≠ .finished → p.state ≠ .faulted →
      (isStriking p = true → exec .ribbonOut s = .next (settle { t with printer := { p with ribbonPending := true } })) ∧
      (isStriking p = false → exec .ribbonOut s = .next (settle (servePresent (printerFail .ribbonOut t)))))

/-- A printer fault (R150, R157, R159): the state is FAULTED with the cause, the head and the tray stop, a disc in LOADED or in a print is
decided REJECTED with LABEL_INCOMPLETE and counted for its job, the binding of a print ends with its use of the raster, its reads and its
buffer, LABEL_RETIRED being logged where a retiring raster loses its last use, and PRINTER_FAULT is logged after the status is written,
with the cause, the state at the failure, the disc index and, for a print, the lines struck (their widths are log 59, PRESUMED). A FAULTED
or halted printer takes none. The tray stays where it stopped: at the line it reached, in a line advance, or LOST in a home seek from LOST
(R157, R159); the line of one stopped between HOME and a line is a free value (log 22, DESIGN CHOICE). -/
def Obligations.PrinterFaultStopsPrint : Prop :=
  (∀ p : Printer, stopsBetween p = true ↔ p.move = some .retract ∨ (p.move = some .homeSeek ∧ ∃ i, p.tray = .line i)) ∧
  ∀ (cause : PrinterCause) (s : State),
    (s.printer.state = .faulted ∨ s.printer.halt = true → printerFail cause s = s) ∧
    (s.printer.state ≠ .faulted → s.printer.halt = false →
      ∃ t, printerFail cause s = t ∧ t.printer.state = .faulted ∧ t.printer.cause = some cause ∧ t.printer.head = none ∧
        (∃ v, t = logEntry .printerFault 0
          (byte cause.code ++ byte s.printer.state.code ++
            byte (match s.printer.disc with | some (.disc d) => d.index.val | _ => 0) ++
            half (if s.printer.state ∈ [.printing, .hotHold, .supplyWait] then s.printer.linesStruck else 0))
          (report 0x4800 (printerBlock t.printer) v)) ∧
        t.printer.move = none ∧ t.printer.strike = none ∧ t.printer.disc = s.printer.disc ∧
        (stopsBetween s.printer = false → t.printer.tray = s.printer.tray) ∧
        (stopsBetween s.printer = true → t.printer.tray = .line (Config.stoppedLine s.draws).val) ∧
        (∀ d x, s.printer.disc = some (.disc d) → s.printer.state ∈ [.loaded, .printing, .hotHold, .supplyWait] →
          s.disc d.index = some x → x.outcome = .passed →
          t.disc d.index = some { x with outcome := .rejected, reason := some .labelIncomplete }) ∧
        (s.printer.state = .empty ∨ s.printer.state = .finished → t.roster = s.roster ∧ t.jobs = s.jobs) ∧
        (∀ (j : SlotNo) d x, s.printer.disc = some (.disc d) → s.printer.state ∈ [.loaded, .printing, .hotHold, .supplyWait] →
          s.disc d.index = some x → x.outcome = .passed → x.slot = BitVec.ofNat 8 j.val →
          (t.job j).rejected = satInc max32 (s.job j).rejected ∧ (t.job j).inFlight = (s.job j).inFlight - 1 ∧
          ∀ k, k ≠ j → t.job k = s.job k) ∧
        (s.printer.state ∉ [.printing, .hotHold, .supplyWait] →
          t.printer.bound = s.printer.bound ∧ t.printer.uses = s.printer.uses ∧ t.printer.buffer = s.printer.buffer) ∧
        (s.printer.state ∈ [.printing, .hotHold, .supplyWait] →
          let q : Printer := { s.printer with
            cause := some cause, head := none, move := none
            tray := if stopsBetween s.printer then .line (Config.stoppedLine s.draws).val else s.printer.tray
            strike := none, line := .off, buffer := Vector.replicate 4 .empty, ribbonPending := false, readFailed := false }
          let ended := fun (e : State) =>
            let r := match s.printer.disc with | some (.disc d) => decideRejected d.index .labelIncomplete 0 id e | _ => e
            let shown : Printer := { r.printer with state := .faulted }
            t.printer = { e.printer with state := .faulted } ∧
            t = logEntry .printerFault 0 (byte cause.code ++ byte s.printer.state.code ++
                byte (match s.printer.disc with | some (.disc d) => d.index.val | _ => 0) ++ half s.printer.linesStruck)
              (report 0x4800 (printerBlock shown) { report 0x4800 (printerBlock r.printer) r with printer := shown })
          let draws := if stopsBetween s.printer then s.draws + 1 else s.draws
          (s.printer.bound = none → ended { s with printer := q, draws := draws }) ∧
          ∀ b, s.printer.bound = some b →
            let uses := (s.printer.uses.map fun u => if u.address = b.1 then { u with count := u.count - 1 } else u).filter
              fun u => decide (0 < u.count)
            let e : State := { s with printer := { q with uses := uses, bound := none }, draws := draws }
            ended (if isRetiring b.1 s.printer.uses = true ∧ inUse b.1 uses = false then logEntry .labelRetired 0 (dword b.1) e
              else e)))

/-- The strobe computation (R166 to R173): a sensor fault first, then a head at or above Tmax, then a supply below Vmin; otherwise a pulse.
The head's temperature is the table's linear interpolation, rounded to the nearest with a tie away from the segment's lower entry (R167);
P0 is scaled by the clamped factor of R169 and by Vref squared over V squared (R170), each product rounded to the nearest with a half up;
the pulse is that clamped to Pmin and Pmax (R171), its phase marks t1 and t2 are rounded fractions of it (R172), and the period is the
configured one or the pulse and 20, the larger (R173). Where the profile orders Pmin and Pmax, the pulse lies between them, and where it
orders H2, H1 and 256, so do t2, t1 and the pulse. -/
def Obligations.StrobeBounds : Prop := ∀ (p : Profile) (sample : Sample),
    (sample.thermistor = 0 ∨ sample.thermistor = 1023 → strobe p sample = .sensor) ∧
    (sample.thermistor ≠ 0 → sample.thermistor ≠ 1023 →
      let k := sample.thermistor.toNat / 64
      let q : Int := (p.table.getD (k + 1) 0 - p.table.getD k 0) * ((sample.thermistor.toNat % 64 : Nat) : Int)
      let tq := p.table.getD k 0 + (if 0 ≤ q then (q + 32) / 64 else -((-q + 32) / 64))
      let v := 8 * sample.supply.toNat
      let factor := max 1024 (min 8192 (4096 - p.kt * (tq - 100)))
      let byHeat := ((p.p0 * factor + 2048) / 4096).toNat
      let bySupply := (byHeat * p.vref ^ 2 + v ^ 2 / 2) / v ^ 2
      let pulse := if bySupply < p.pmin then p.pmin else if p.pmax < bySupply then p.pmax else bySupply
      let t1 := (pulse * p.h1 + 128) / 256
      let t2 := (pulse * p.h2 + 128) / 256
      (p.tmax ≤ tq → strobe p sample = .hot tq) ∧
      (tq < p.tmax → (v < p.vmin → strobe p sample = .lowSupply v) ∧
        (p.vmin ≤ v →
          strobe p sample = .pulse pulse t1 t2 (max p.period (pulse + 20)) (decide (p.period < pulse + 20)) ∧
          (p.pmin ≤ p.pmax → p.pmin ≤ pulse ∧ pulse ≤ p.pmax) ∧ (p.h1 ≤ 256 → t1 ≤ pulse) ∧ (p.h2 ≤ p.h1 → t2 ≤ t1))))

/-! ### Host memory, reports and the log -/

/-- A report (R175, R185): in STOPPED nothing is written; otherwise the region's bytes stand in the window at its offset, the update count
has advanced, the header is written after it, and no other byte and no other item changes. What the header (11.3) and the regions hold
(R188, 11.1, 11.6, 11.7): each field of the header, of a job's, a lane's and a station's block, of the transport's and the printer's
status and of a disc record stands at its offset, the least significant byte first, with the codes of 11.1, and every other byte is zero.
A rate bit that needs both rates is log 73, the phase of a rise, of a shake and of the move with a disc toward a tray log 74 (both DESIGN
CHOICE), the kind of a task of the sweep log 20 (DEDUCED). -/
def Obligations.ReportsWriteWindow : Prop :=
  (∀ (offset : Nat) (bs : List Byte) (s : State), MemoriesWf s →
    (s.port.part = .stopped → report offset bs s = s) ∧
    (s.port.part ≠ .stopped → 256 ≤ offset →
      ∃ t, report offset bs s = t ∧ t = { s with port := t.port, host := t.host } ∧
        t.port = { s.port with updateCount := s.port.updateCount.advance max32 } ∧
        (∀ k, k < bs.length → Memory.read t.host (s.port.windowBase.toNat + offset + k) = bs.getD k 0) ∧
        (∀ k, k < 256 → Memory.read t.host (s.port.windowBase.toNat + k) = (headerBytes t.port).getD k 0) ∧
        ∀ x, (x < s.port.windowBase.toNat ∨ s.port.windowBase.toNat + 256 ≤ x) →
          (x < s.port.windowBase.toNat + offset ∨ s.port.windowBase.toNat + offset + bs.length ≤ x) →
          Memory.read t.host x = Memory.read s.host x)) ∧
  (∀ (flags : List Bool) (i : Nat), (flagByte flags).testBit i = flags.getD i false) ∧
  (∀ p : Port, RecordHolds 256 (headerBytes p)
    [(0x00, 4, Config.layoutVersion.toNat), (0x04, 1, p.part.code), (0x05, 1, flagByte [p.stopPending]),
     (0x06, 1, flagByte [p.updateCount.saturated, p.logCount.saturated]), (0x08, 4, p.updateCount.value),
     (0x0C, 4, p.logCount.value), (0x10, 8, p.timeBase)]) ∧
  [PartState.stopped, .starting, .running, .faulted].map PartState.code = List.range 4 ∧
  (∀ j : Job,
    let of := fun (f : JobRecord → Nat) => (j.record.map f).getD 0
    RecordHolds 256 (jobBlock j)
      [(0x00, 1, j.state.code), (0x01, 1, (j.hold.map HoldReason.code).getD 0), (0x02, 1, of (·.priority)),
       (0x03, 1, of (·.tolerate.toNat)), (0x04, 2, of (·.copies)), (0x06, 2, j.good), (0x08, 4, j.issued), (0x0C, 4, j.rejected),
       (0x10, 1, j.inFlight), (0x11, 1, j.reserved), (0x12, 1, j.probeRun),
       (0x13, 1, flagByte [j.stall.supplyEmpty, j.stall.rosterFull, j.stall.outputFull, j.stall.rejectFull, j.stall.noLane]),
       (0x14, 1, flagByte [j.nextSerial.isSome, j.raster.isSome]), (0x18, 8, j.nextSerial.getD 0),
       (0x20, 8, (j.raster.map (·.1)).getD 0), (0x28, 2, (j.raster.map (·.2)).getD 0)]) ∧
  (∀ (l : Lane) (up : Bool), l.trail.length ≤ 8 →
    let c := l.counters
    let result := fun (f : DiagResult → Nat) => (l.diagResult.map f).getD 0
    RecordHolds 128 (laneBlock l up)
      ([(0x00, 1, l.state.code),
        (0x01, 1, flagByte [l.enabled, up, l.disc.isSome, l.ceiling.isSome && l.rate.isSome, l.diagResult.isSome,
          (l.diagResult.bind (·.firstMismatch)).isSome]),
        (0x02, 2, l.cap), (0x04, 1, (l.disc.map (·.index.val)).getD 0), (0x05, 1, (l.disc.map (·.slot.val)).getD 0),
        (0x06, 2, l.ceiling.getD 0), (0x08, 2, l.rate.getD 0), (0x0A, 1, l.fifo.length), (0x0B, 1, l.faultRun),
        (0x0C, 2, l.credits), (0x0E, 1, l.pace.history.toNat), (0x0F, 1, l.pace.reviews), (0x10, 4, c.sectorsWritten.value),
        (0x14, 2, c.gaps.value), (0x16, 2, c.downshifts.value), (0x18, 2, c.upshifts.value), (0x1A, 2, c.discsGood.value),
        (0x1C, 2, c.discsRejected.value),
        (0x1E, 1, flagByte [c.sectorsWritten.saturated, c.gaps.saturated, c.downshifts.saturated, c.upshifts.saturated,
          c.discsGood.saturated, c.discsRejected.saturated]),
        (0x1F, 1, result (·.outcome.code)), (0x20, 2, l.stray), (0x22, 1, result (·.slot.val)), (0x23, 1, result (·.pagesDone)),
        (0x24, 2, result (·.sectorsCompared)), (0x26, 2, result (·.mismatches)), (0x28, 4, result (·.firstMismatch.getD 0)),
        (0x2C, 1, l.trail.length)] ++
       l.trail.zipIdx.flatMap fun e => [(0x40 + 8 * e.2, 6, e.1.2), (0x46 + 8 * e.2, 1, e.1.1.code)])) ∧
  (∀ e : StationEntry, RecordHolds 16 (entryBytes e)
    [(0x00, 1, e.occupancy.code), (0x01, 1, flagByte [e.disc.isSome, e.claim, e.empty, e.full]),
     (0x02, 1, (e.disc.map (·.val)).getD 0), (0x04, 2, e.count)]) ∧
  (∀ t : Transport,
    let task := fun (f : ArmTask → Nat) => (t.current.map f).getD 0
    RecordHolds 64 (transportBlock t)
      [(0x00, 1, t.arm.code),
       (0x01, 1, flagByte [t.posValid, t.gripperClosed, t.discPresent, t.thicknessTwo, t.current.isSome,
         decide (t.arm = .moving ∧ t.current.map (·.phase) = some .waitFull)]),
       (0x02, 2, if t.posValid then t.shownLift else 0), (0x04, 2, if t.posValid then t.shownSwing else 0),
       (0x06, 1, task (·.task.kind.code)), (0x07, 1, task (·.task.requester.val)), (0x08, 1, task (·.task.dest.val)),
       (0x09, 1, task (·.phase.code)), (0x0A, 1, task (·.task.faults)), (0x0B, 1, (t.lastCause.map ArmCause.code).getD 0),
       (0x0C, 4, flagByte (t.queue.toList.map (·.isSome)))]) ∧
  (∀ p : Printer,
    let held := fun (f : DiscRef → Nat) => match p.disc with | some (.disc d) => f d | _ => 0
    let use := fun (f : RasterUse → Nat) => (p.uses.head?.map f).getD 0
    RecordHolds 64 (printerBlock p)
      [(0x00, 1, p.state.code),
       (0x01, 1, flagByte [p.halt, p.disc.isSome, decide (p.disc = some .orphan), p.complete, p.present, p.bound.isSome]),
       (0x02, 1, (p.cause.map PrinterCause.code).getD 0), (0x03, 1, held (·.index.val)), (0x04, 1, held (·.slot.val)),
       (0x05, 1, match p.tray with | .lost => 0 | .home => 1 | .line _ => 2), (0x06, 2, match p.tray with | .line n => n | _ => 0),
       (0x08, 8, (p.bound.map (·.1)).getD 0), (0x10, 2, (p.bound.map (·.2)).getD 0), (0x12, 2, p.linesStruck),
       (0x14, 2, p.starved), (0x16, 2, p.stretched), (0x18, 2, p.lastPulse), (0x1A, 2, p.lastPeriod),
       (0x1C, 2, p.sample.thermistor.toNat), (0x1E, 2, p.sample.supply.toNat), (0x20, 2, p.nextLine), (0x22, 1, use (·.count)),
       (0x23, 1, use fun u => if u.retiring then 1 else 0), (0x28, 8, use (·.address))]) ∧
  rosterBytes none = List.replicate 128 0 ∧
  (∀ r : DiscRecord,
    let totals := fun (f : WriteTotals → Nat) => (r.totals.map f).getD 0
    let counts := fun (f : VerifyCounts → Nat) => (r.verify.map f).getD 0
    RecordHolds 128 (rosterBytes (some r))
      [(0x00, 1, r.outcome.code), (0x01, 1, r.location.code), (0x02, 1, r.slot.toNat), (0x03, 1, r.laneUsed.toNat),
       (0x04, 1, flagByte [r.doubleFeed, r.printed]), (0x05, 1, (r.reason.map RejectReason.code).getD 0),
       (0x06, 2, flagByte [r.serial.isSome, r.reason.isSome, r.startRate.isSome, r.totals.isSome, r.verify.isSome, r.raster.isSome,
         r.pickedAt.isSome, r.writeStart.isSome, r.writeEnd.isSome, r.verifyEnd.isSome, r.printedAt.isSome, r.droppedAt.isSome]),
       (0x08, 8, r.serial.getD 0), (0x10, 2, r.startRate.getD 0), (0x12, 2, totals (·.finalRate)), (0x14, 2, totals (·.gaps)),
       (0x16, 2, totals (·.downshifts)), (0x18, 2, totals (·.upshifts)), (0x1A, 2, counts (·.hard)), (0x1C, 2, counts (·.miscompare)),
       (0x1E, 2, counts (·.soft)), (0x20, 8, r.raster.getD 0), (0x28, 8, r.pickedAt.getD 0), (0x30, 8, r.writeStart.getD 0),
       (0x38, 8, r.writeEnd.getD 0), (0x40, 8, r.verifyEnd.getD 0), (0x48, 8, r.printedAt.getD 0), (0x50, 8, r.droppedAt.getD 0)]) ∧
  [JobState.free, .running, .draining, .held, .aborting, .done, .aborted].map JobState.code = List.range 7 ∧
  [HoldReason.host, .serialRange, .imageFetch, .supplySuspect].map HoldReason.code = List.range' 1 4 ∧
  [LaneState.unknown, .offline, .idle, .loadWait, .trayLoad, .probing, .negotiating, .writing, .closing, .verifying, .unloadWait,
    .trayUnload, .faulted].map LaneState.code = List.range 13 ∧
  [DiagEnd.pass, .mismatch, .reference].map DiagEnd.code = List.range' 1 3 ∧
  [Occupancy.empty, .occupied, .unknown].map Occupancy.code = List.range 3 ∧
  [ArmState.unhomed, .homing, .idle, .moving, .stopped, .faulted].map ArmState.code = List.range 6 ∧
  [ArmCause.moveTimeout, .gripMiss, .releaseFail, .trayOccupied, .homeFail].map ArmCause.code = List.range' 1 5 ∧
  [TaskKind.load, .unloadLane, .unloadPrinter, .sweepGripper, .sweepPrinter].map TaskKind.code = [0, 1, 2, 2, 2] ∧
  (∀ (dest : Bool) (k : Nat), [ArmPhase.lift dest, .swing dest, .waitTray dest, .descend dest, .search dest, .shake k, .rise dest,
    .waitFull].map ArmPhase.code = [if dest then 3 else 0, if dest then 3 else 0, 1, 2, 2, 2, 2, 4]) ∧
  [PrinterState.empty, .loaded, .printing, .hotHold, .supplyWait, .finished, .faulted].map PrinterState.code = List.range 7 ∧
  [PrinterCause.ribbonOut, .sensor, .headHot, .supplyLow, .trayTimeout].map PrinterCause.code = List.range' 1 5 ∧
  [DiscOutcome.reserved, .pending, .passed, .good, .rejected].map DiscOutcome.code = List.range' 1 5 ∧
  [Location.nowhere, .arm, .printer, .output, .reject].map Location.code = List.range 5 ∧
  (∀ n : LaneNo, (Location.lane n).code = 16 + n.val) ∧
  [RejectReason.wrongMedia, .notBlank, .tooSmall, .noSpeed, .writeFault, .writeStall, .gapLimit, .driveFault, .laneDisabled,
    .verifyHard, .verifyMiscompare, .verifySoft, .verifyReference, .imageFetch, .doubleFeed, .transportFault, .labelIncomplete,
    .aborted, .reset].map RejectReason.code = List.range' 1 19

/-- A log entry (R184): 32 bytes at position n mod 128 of the log with n as its number, both counts advanced, the header, and LOG in
CAUSE exactly where the entry's class is enabled; no other byte and no other item changes. In STOPPED none is made. The
entry holds its number, the code of its kind, the class and the subject kind of that kind (11.8), the subject, or 0 where the kind has
none, the time base and the detail's first sixteen bytes; the codes are those of 11.1. -/
def Obligations.LogEntriesMade : Prop :=
  let kinds : List LogKind := [.jobAdmitted, .jobHeld, .jobResumed, .jobDone, .jobAborted, .discPicked, .discGood, .discRejected,
    .laneSpeed, .lanePaceFloor, .laneDisabled, .diagDone, .inputEmpty, .outputFull, .rejectFull, .orphanSwept, .stopAsserted,
    .stopCleared, .headHotHold, .labelRetired, .laneFault, .fetchFault, .armFault, .printerFault]
  kinds.map LogKind.code = List.range' 1 24 ∧
  kinds.map LogKind.classCode = [0, 0, 0, 0, 0, 1, 1, 1, 2, 2, 2, 2, 3, 3, 3, 3, 3, 3, 4, 4, 5, 5, 5, 5] ∧
  kinds.map LogKind.subjectCode = [1, 1, 1, 1, 1, 3, 3, 3, 2, 2, 2, 2, 4, 4, 4, 0, 0, 0, 3, 0, 2, 1, 0, 0] ∧
  [LaneCause.linkDown, .trayTimeout, .trayJammed, .trayStateWrong, .trayEmpty].map LaneCause.code = List.range' 1 5 ∧
  [TrayCmd.opened, .close, .query].map TrayCmd.code = List.range' 1 3 ∧
  [FetchFailure.readError, .timeout].map FetchFailure.code = List.range' 1 2 ∧
  (∀ (n time : Nat) (kind : LogKind) (subject : Nat) (detail : List Byte), RecordHolds 32 (logBytes n time kind subject detail)
    ([(0x00, 4, n), (0x04, 1, kind.code), (0x05, 1, kind.classCode), (0x06, 1, kind.subjectCode),
      (0x07, 1, if kind.subjectCode = 0 then 0 else subject), (0x08, 8, time)] ++
      (List.range 16).map fun k => (0x10 + k, 1, (detail.getD k 0).toNat))) ∧
  ∀ (kind : LogKind) (subject : Nat) (detail : List Byte) (s : State), MemoriesWf s →
    let n := s.port.logCount.value
    let a := s.port.windowBase.toNat + 0x5000 + 32 * (n % 128)
    (s.port.part = .stopped → logEntry kind subject detail s = s) ∧
    (s.port.part ≠ .stopped →
      ∃ t, logEntry kind subject detail s = t ∧ t = { s with port := t.port, host := t.host } ∧
        t.port = { s.port with
          logCount := s.port.logCount.advance max32, updateCount := s.port.updateCount.advance max32
          cause := if s.port.logEnables.getLsbD kind.classCode then s.port.cause ||| 2 else s.port.cause } ∧
        (∀ k, k < 256 → Memory.read t.host (s.port.windowBase.toNat + k) = (headerBytes t.port).getD k 0) ∧
        (∀ k, k < 32 → Memory.read t.host (a + k) = (logBytes n s.port.timeBase kind subject detail).getD k 0) ∧
        ∀ x, (x < s.port.windowBase.toNat ∨ s.port.windowBase.toNat + 256 ≤ x) → (x < a ∨ a + 32 ≤ x) →
          Memory.read t.host x = Memory.read s.host x)

/-! ### Every step -/

/-- WINDOW_BASE and WINDOW_SIZE change only in STOPPED, or by a reset (R176, R179). -/
def Obligations.WindowStandsOutsideStopped : Prop :=
  ∀ (s t : State), s.port.part ≠ .stopped → (∀ c rest, s.pending = c :: rest → isReset c = false) → step s = .next t →
    SameWindow s t

/-- A cause set stays set until CAUSE is read or the part is reset (R186). -/
def Obligations.CausesStaySet : Prop :=
  ∀ (s t : State), (∀ c rest, s.pending = c :: rest → isReset c = false ∧ c ≠ .causeRead) → step s = .next t →
    s.port.cause &&& t.port.cause = s.port.cause

/-- Every step, from every state whose memories are in canonical form, whose counts fit and which leaves no report over, ends in a next
state of that kind. The counts are the time base, the log and update counts, each lane's six counters, disc totals, credits, fault run and
stray count, and each job's issued, rejected and probe reject run; a job's good, in flight and reserved are bounded by its copies and by
the holders of discs, not by a width of their own (R12, R18). No command faults or is refused (00_scope 2.3, 2.4; the memory's form and
the reports are the model's own, logs 5 and 25). And a window that shows the eight job contexts, the station map and the transport status
as they stand goes on to show them after every step that ends outside STOPPED, whatever the step changed in them (R1, R124, R130): no
change of an item goes unreported, and no other write falls on them, the held sheets lying beyond the part-written region (2.6). -/
def Obligations.StepKeepsInvariant : Prop :=
  (∀ s : State, MemoriesWf s → CountsFit s → Settled s → ∃ t, step s = .next t ∧ MemoriesWf t ∧ CountsFit t ∧ Settled t) ∧
  ∀ s t : State, MemoriesWf s → s.port.part ≠ .stopped → SheetsBeyond s → WindowShows s → step s = .next t →
    t.port.part ≠ .stopped → SheetsBeyond t ∧ WindowShows t

/-- The state after reset has those properties. -/
def Obligations.ResetHasInvariant : Prop := MemoriesWf State.reset ∧ CountsFit State.reset ∧ Settled State.reset

/-- No step runs the time base backwards, but for a reset (00_scope 1.2, 2.3). It rests on the count holding at its 48-bit maximum (log 3,
DESIGN CHOICE), and on a limit's time that leaves a later base as it is (log 7, DESIGN CHOICE). -/
def Obligations.TimeNeverFalls : Prop :=
  ∀ (s t : State), CountsFit s → (∀ c rest, s.pending = c :: rest → isReset c = false) → step s = .next t →
    s.port.timeBase ≤ t.port.timeBase
end

