-- ==== Sys2Proof/Laws/Memory.lean ====
section
/-! SUPPORT. Memory: what a read after a write gives, and that every operation keeps the canonical form. -/

namespace Sys2Proof.Machine

/-! ### Reads after writes -/

theorem Memory.read_cons_self (a : Nat) (b : Byte) (m : Memory) (h : Memory.above a m = true) :
    Memory.read (Memory.cons a b m) a = b := by
  unfold Memory.cons
  split
  · rename_i hb
    cases m with
    | nil => simp [Memory.read, hb]
    | cons c rest =>
      obtain ⟨k, v⟩ := c
      simp only [Memory.above, Bool.and_eq_true, decide_eq_true_eq] at h
      have h1 : k ≠ a := by omega
      simp [Memory.read, h1, h.1.1, hb]
  · simp [Memory.read]

theorem Memory.read_of_above (a x : Nat) (m : Memory) (h : Memory.above a m = true) (hx : x ≤ a) :
    Memory.read m x = Memory.blank := by
  cases m with
  | nil => rfl
  | cons c rest =>
    obtain ⟨k, v⟩ := c
    simp only [Memory.above, Bool.and_eq_true, decide_eq_true_eq] at h
    have h1 : k ≠ x := by omega
    have h2 : x < k := by omega
    simp [Memory.read, h1, h2]

theorem Memory.above_mono (a b : Nat) (m : Memory) (h : Memory.above a m = true) (hb : b ≤ a) :
    Memory.above b m = true := by
  cases m with
  | nil => rfl
  | cons c rest =>
    obtain ⟨k, v⟩ := c
    simp only [Memory.above, Bool.and_eq_true, decide_eq_true_eq] at h ⊢
    exact ⟨⟨by omega, h.1.2⟩, h.2⟩

theorem Memory.wf_of_above (a : Nat) (m : Memory) (h : Memory.above a m = true) : Memory.wf m = true := by
  cases m with
  | nil => rfl
  | cons c rest =>
    obtain ⟨k, v⟩ := c
    simp only [Memory.above, Bool.and_eq_true, decide_eq_true_eq] at h
    simp [Memory.wf, h.1.2, h.2]

theorem Memory.above_cons (a c : Nat) (b : Byte) (m : Memory) (hc : c < a) (h : Memory.above a m = true) :
    Memory.above c (Memory.cons a b m) = true := by
  unfold Memory.cons
  split
  · exact Memory.above_mono a c m h (by omega)
  · rename_i hb
    simp [Memory.above, hc, hb, h]

theorem Memory.above_write (c a : Nat) (b : Byte) (m : Memory) (hc : c < a) (h : Memory.above c m = true) :
    Memory.above c (Memory.write m a b) = true := by
  induction m generalizing c with
  | nil => exact Memory.above_cons a c b [] hc rfl
  | cons p rest ih =>
    obtain ⟨k, v⟩ := p
    simp only [Memory.above, Bool.and_eq_true, decide_eq_true_eq] at h
    simp only [Memory.write]
    split
    · exact Memory.above_cons a c b _ hc (by simp only [Memory.above, Bool.and_eq_true, decide_eq_true_eq]; exact ⟨⟨‹_›, h.1.2⟩, h.2⟩)
    · split
      · rename_i hk
        subst hk
        exact Memory.above_cons a c b rest hc h.2
      · have hka : k < a := by omega
        simp [Memory.above, h.1.1, h.1.2, ih k hka h.2]

/-- A write keeps the canonical form. -/
theorem Memory.wf_write (m : Memory) (a : Nat) (b : Byte) (h : Memory.wf m = true) :
    Memory.wf (Memory.write m a b) = true := by
  cases m with
  | nil =>
    simp only [Memory.write, Memory.cons]
    split <;> simp_all [Memory.wf, Memory.above]
  | cons p rest =>
    obtain ⟨k, v⟩ := p
    simp only [Memory.wf, Bool.and_eq_true, decide_eq_true_eq] at h
    simp only [Memory.write]
    split
    · unfold Memory.cons
      split
      · simp [Memory.wf, h.1, h.2]
      · simp_all [Memory.wf, Memory.above]
    · split
      · rename_i hk
        subst hk
        unfold Memory.cons
        split
        · exact Memory.wf_of_above _ _ h.2
        · simp_all [Memory.wf]
      · have hka : k < a := by omega
        simp [Memory.wf, h.1, Memory.above_write k a b rest hka h.2]

/-- Writing bytes keeps the canonical form. -/
theorem Memory.wf_writeBytes (m : Memory) (a : Nat) (bs : List Byte) (h : Memory.wf m = true) :
    Memory.wf (Memory.writeBytes m a bs) = true := by
  induction bs generalizing m a with
  | nil => exact h
  | cons b rest ih => exact ih _ _ (Memory.wf_write m a b h)

/-- The byte written reads back, where the cells from there on lie in the canonical form. -/
theorem Memory.read_write_self (m : Memory) (a : Nat) (b : Byte) (h : Memory.wf m = true) :
    Memory.read (Memory.write m a b) a = b := by
  induction m with
  | nil => exact Memory.read_cons_self a b [] rfl
  | cons p rest ih =>
    obtain ⟨k, v⟩ := p
    simp only [Memory.wf, Bool.and_eq_true, decide_eq_true_eq] at h
    simp only [Memory.write]
    split
    · apply Memory.read_cons_self
      simp_all [Memory.above]
    · split
      · rename_i hk
        subst hk
        exact Memory.read_cons_self a b rest h.2
      · have h1 : k ≠ a := by omega
        have h2 : ¬ a < k := by omega
        simp [Memory.read, h1, h2, ih (Memory.wf_of_above _ _ h.2)]

/-- Every other byte reads as before. -/
theorem Memory.read_write_ne (m : Memory) (a x : Nat) (b : Byte) (h : Memory.wf m = true) (hx : x ≠ a) :
    Memory.read (Memory.write m a b) x = Memory.read m x := by
  induction m with
  | nil =>
    simp only [Memory.write, Memory.cons]
    split
    · rfl
    · simp [Memory.read, hx.symm]
  | cons p rest ih =>
    obtain ⟨k, v⟩ := p
    simp only [Memory.wf, Bool.and_eq_true, decide_eq_true_eq] at h
    simp only [Memory.write]
    split
    · rename_i hak
      unfold Memory.cons
      split
      · rfl
      · simp only [Memory.read, hx.symm, if_false]
        split
        · have h1 : k ≠ x := by omega
          have h2 : x < k := by omega
          simp [h1, h2]
        · rfl
    · split
      · rename_i hk
        subst hk
        unfold Memory.cons
        split
        · simp only [Memory.read, hx.symm, if_false]
          split
          · exact Memory.read_of_above a x rest h.2 (by omega)
          · rfl
        · simp [Memory.read, hx.symm]
      · simp only [Memory.read]
        split
        · rfl
        · split
          · rfl
          · exact ih (Memory.wf_of_above _ _ h.2)

/-- Bytes outside the ones written read as before. -/
theorem Memory.read_writeBytes_outside (m : Memory) (a x : Nat) (bs : List Byte) (h : Memory.wf m = true)
    (hx : x < a ∨ a + bs.length ≤ x) : Memory.read (Memory.writeBytes m a bs) x = Memory.read m x := by
  induction bs generalizing m a with
  | nil => rfl
  | cons b rest ih =>
    simp only [List.length_cons] at hx
    rw [Memory.writeBytes, ih _ _ (Memory.wf_write m a b h) (by omega), Memory.read_write_ne m a x b h (by omega)]

/-- The bytes written read back. -/
theorem Memory.read_writeBytes_inside (m : Memory) (a i : Nat) (bs : List Byte) (h : Memory.wf m = true)
    (hi : i < bs.length) : Memory.read (Memory.writeBytes m a bs) (a + i) = bs[i] := by
  induction bs generalizing m a i with
  | nil => simp at hi
  | cons b rest ih =>
    cases i with
    | zero =>
      rw [Memory.writeBytes, Memory.read_writeBytes_outside _ _ _ _ (Memory.wf_write m a b h) (by omega)]
      simpa using Memory.read_write_self m a b h
    | succ i =>
      have := ih (Memory.write m a b) (a + 1) i (Memory.wf_write m a b h) (by simpa using hi)
      rw [Memory.writeBytes]
      simpa [Nat.add_assoc, Nat.add_comm 1 i] using this

end Sys2Proof.Machine
end

