-- ==== Sys2Proof/Laws/State.lean ====
section
/-! SUPPORT. One lemma per field per update of the state, and the read-back of each indexed part. -/

namespace Sys2Proof.Machine

@[simp] theorem State.setLane_port (s : State) (n : LaneNo) (l : Lane) : (s.setLane n l).port = s.port := rfl
@[simp] theorem State.setLane_jobs (s : State) (n : LaneNo) (l : Lane) : (s.setLane n l).jobs = s.jobs := rfl
@[simp] theorem State.setLane_roster (s : State) (n : LaneNo) (l : Lane) : (s.setLane n l).roster = s.roster := rfl
@[simp] theorem State.setLane_frames (s : State) (n : LaneNo) (l : Lane) : (s.setLane n l).frames = s.frames := rfl
@[simp] theorem State.setLane_fetch (s : State) (n : LaneNo) (l : Lane) : (s.setLane n l).fetch = s.fetch := rfl
@[simp] theorem State.setLane_dram (s : State) (n : LaneNo) (l : Lane) : (s.setLane n l).dram = s.dram := rfl
@[simp] theorem State.setLane_links (s : State) (n : LaneNo) (l : Lane) : (s.setLane n l).links = s.links := rfl
@[simp] theorem State.setLane_verify (s : State) (n : LaneNo) (l : Lane) : (s.setLane n l).verify = s.verify := rfl
@[simp] theorem State.setLane_transport (s : State) (n : LaneNo) (l : Lane) : (s.setLane n l).transport = s.transport := rfl
@[simp] theorem State.setLane_bridges (s : State) (n : LaneNo) (l : Lane) : (s.setLane n l).bridges = s.bridges := rfl
@[simp] theorem State.setLane_printer (s : State) (n : LaneNo) (l : Lane) : (s.setLane n l).printer = s.printer := rfl
@[simp] theorem State.setLane_pins (s : State) (n : LaneNo) (l : Lane) : (s.setLane n l).pins = s.pins := rfl
@[simp] theorem State.setLane_host (s : State) (n : LaneNo) (l : Lane) : (s.setLane n l).host = s.host := rfl
@[simp] theorem State.setLane_signals (s : State) (n : LaneNo) (l : Lane) : (s.setLane n l).signals = s.signals := rfl
@[simp] theorem State.setLane_draws (s : State) (n : LaneNo) (l : Lane) : (s.setLane n l).draws = s.draws := rfl
@[simp] theorem State.setLane_pending (s : State) (n : LaneNo) (l : Lane) : (s.setLane n l).pending = s.pending := rfl

@[simp] theorem State.updLane_port (s : State) (n : LaneNo) (f : Lane → Lane) : (s.updLane n f).port = s.port := rfl
@[simp] theorem State.updLane_jobs (s : State) (n : LaneNo) (f : Lane → Lane) : (s.updLane n f).jobs = s.jobs := rfl
@[simp] theorem State.updLane_roster (s : State) (n : LaneNo) (f : Lane → Lane) : (s.updLane n f).roster = s.roster := rfl
@[simp] theorem State.updLane_frames (s : State) (n : LaneNo) (f : Lane → Lane) : (s.updLane n f).frames = s.frames := rfl
@[simp] theorem State.updLane_fetch (s : State) (n : LaneNo) (f : Lane → Lane) : (s.updLane n f).fetch = s.fetch := rfl
@[simp] theorem State.updLane_dram (s : State) (n : LaneNo) (f : Lane → Lane) : (s.updLane n f).dram = s.dram := rfl
@[simp] theorem State.updLane_links (s : State) (n : LaneNo) (f : Lane → Lane) : (s.updLane n f).links = s.links := rfl
@[simp] theorem State.updLane_verify (s : State) (n : LaneNo) (f : Lane → Lane) : (s.updLane n f).verify = s.verify := rfl
@[simp] theorem State.updLane_transport (s : State) (n : LaneNo) (f : Lane → Lane) : (s.updLane n f).transport = s.transport := rfl
@[simp] theorem State.updLane_bridges (s : State) (n : LaneNo) (f : Lane → Lane) : (s.updLane n f).bridges = s.bridges := rfl
@[simp] theorem State.updLane_printer (s : State) (n : LaneNo) (f : Lane → Lane) : (s.updLane n f).printer = s.printer := rfl
@[simp] theorem State.updLane_pins (s : State) (n : LaneNo) (f : Lane → Lane) : (s.updLane n f).pins = s.pins := rfl
@[simp] theorem State.updLane_host (s : State) (n : LaneNo) (f : Lane → Lane) : (s.updLane n f).host = s.host := rfl
@[simp] theorem State.updLane_signals (s : State) (n : LaneNo) (f : Lane → Lane) : (s.updLane n f).signals = s.signals := rfl
@[simp] theorem State.updLane_draws (s : State) (n : LaneNo) (f : Lane → Lane) : (s.updLane n f).draws = s.draws := rfl
@[simp] theorem State.updLane_pending (s : State) (n : LaneNo) (f : Lane → Lane) : (s.updLane n f).pending = s.pending := rfl

@[simp] theorem State.setLink_port (s : State) (n : LaneNo) (l : Link) : (s.setLink n l).port = s.port := rfl
@[simp] theorem State.setLink_jobs (s : State) (n : LaneNo) (l : Link) : (s.setLink n l).jobs = s.jobs := rfl
@[simp] theorem State.setLink_roster (s : State) (n : LaneNo) (l : Link) : (s.setLink n l).roster = s.roster := rfl
@[simp] theorem State.setLink_frames (s : State) (n : LaneNo) (l : Link) : (s.setLink n l).frames = s.frames := rfl
@[simp] theorem State.setLink_fetch (s : State) (n : LaneNo) (l : Link) : (s.setLink n l).fetch = s.fetch := rfl
@[simp] theorem State.setLink_dram (s : State) (n : LaneNo) (l : Link) : (s.setLink n l).dram = s.dram := rfl
@[simp] theorem State.setLink_lanes (s : State) (n : LaneNo) (l : Link) : (s.setLink n l).lanes = s.lanes := rfl
@[simp] theorem State.setLink_verify (s : State) (n : LaneNo) (l : Link) : (s.setLink n l).verify = s.verify := rfl
@[simp] theorem State.setLink_transport (s : State) (n : LaneNo) (l : Link) : (s.setLink n l).transport = s.transport := rfl
@[simp] theorem State.setLink_bridges (s : State) (n : LaneNo) (l : Link) : (s.setLink n l).bridges = s.bridges := rfl
@[simp] theorem State.setLink_printer (s : State) (n : LaneNo) (l : Link) : (s.setLink n l).printer = s.printer := rfl
@[simp] theorem State.setLink_pins (s : State) (n : LaneNo) (l : Link) : (s.setLink n l).pins = s.pins := rfl
@[simp] theorem State.setLink_host (s : State) (n : LaneNo) (l : Link) : (s.setLink n l).host = s.host := rfl
@[simp] theorem State.setLink_signals (s : State) (n : LaneNo) (l : Link) : (s.setLink n l).signals = s.signals := rfl
@[simp] theorem State.setLink_draws (s : State) (n : LaneNo) (l : Link) : (s.setLink n l).draws = s.draws := rfl
@[simp] theorem State.setLink_pending (s : State) (n : LaneNo) (l : Link) : (s.setLink n l).pending = s.pending := rfl

@[simp] theorem State.setJob_port (s : State) (j : SlotNo) (v : Job) : (s.setJob j v).port = s.port := rfl
@[simp] theorem State.setJob_roster (s : State) (j : SlotNo) (v : Job) : (s.setJob j v).roster = s.roster := rfl
@[simp] theorem State.setJob_frames (s : State) (j : SlotNo) (v : Job) : (s.setJob j v).frames = s.frames := rfl
@[simp] theorem State.setJob_fetch (s : State) (j : SlotNo) (v : Job) : (s.setJob j v).fetch = s.fetch := rfl
@[simp] theorem State.setJob_dram (s : State) (j : SlotNo) (v : Job) : (s.setJob j v).dram = s.dram := rfl
@[simp] theorem State.setJob_lanes (s : State) (j : SlotNo) (v : Job) : (s.setJob j v).lanes = s.lanes := rfl
@[simp] theorem State.setJob_links (s : State) (j : SlotNo) (v : Job) : (s.setJob j v).links = s.links := rfl
@[simp] theorem State.setJob_verify (s : State) (j : SlotNo) (v : Job) : (s.setJob j v).verify = s.verify := rfl
@[simp] theorem State.setJob_transport (s : State) (j : SlotNo) (v : Job) : (s.setJob j v).transport = s.transport := rfl
@[simp] theorem State.setJob_bridges (s : State) (j : SlotNo) (v : Job) : (s.setJob j v).bridges = s.bridges := rfl
@[simp] theorem State.setJob_printer (s : State) (j : SlotNo) (v : Job) : (s.setJob j v).printer = s.printer := rfl
@[simp] theorem State.setJob_pins (s : State) (j : SlotNo) (v : Job) : (s.setJob j v).pins = s.pins := rfl
@[simp] theorem State.setJob_host (s : State) (j : SlotNo) (v : Job) : (s.setJob j v).host = s.host := rfl
@[simp] theorem State.setJob_signals (s : State) (j : SlotNo) (v : Job) : (s.setJob j v).signals = s.signals := rfl
@[simp] theorem State.setJob_draws (s : State) (j : SlotNo) (v : Job) : (s.setJob j v).draws = s.draws := rfl
@[simp] theorem State.setJob_pending (s : State) (j : SlotNo) (v : Job) : (s.setJob j v).pending = s.pending := rfl

@[simp] theorem State.setDisc_port (s : State) (i : DiscNo) (r : Option DiscRecord) : (s.setDisc i r).port = s.port := rfl
@[simp] theorem State.setDisc_jobs (s : State) (i : DiscNo) (r : Option DiscRecord) : (s.setDisc i r).jobs = s.jobs := rfl
@[simp] theorem State.setDisc_frames (s : State) (i : DiscNo) (r : Option DiscRecord) : (s.setDisc i r).frames = s.frames := rfl
@[simp] theorem State.setDisc_fetch (s : State) (i : DiscNo) (r : Option DiscRecord) : (s.setDisc i r).fetch = s.fetch := rfl
@[simp] theorem State.setDisc_dram (s : State) (i : DiscNo) (r : Option DiscRecord) : (s.setDisc i r).dram = s.dram := rfl
@[simp] theorem State.setDisc_lanes (s : State) (i : DiscNo) (r : Option DiscRecord) : (s.setDisc i r).lanes = s.lanes := rfl
@[simp] theorem State.setDisc_links (s : State) (i : DiscNo) (r : Option DiscRecord) : (s.setDisc i r).links = s.links := rfl
@[simp] theorem State.setDisc_verify (s : State) (i : DiscNo) (r : Option DiscRecord) : (s.setDisc i r).verify = s.verify := rfl
@[simp] theorem State.setDisc_transport (s : State) (i : DiscNo) (r : Option DiscRecord) : (s.setDisc i r).transport = s.transport := rfl
@[simp] theorem State.setDisc_bridges (s : State) (i : DiscNo) (r : Option DiscRecord) : (s.setDisc i r).bridges = s.bridges := rfl
@[simp] theorem State.setDisc_printer (s : State) (i : DiscNo) (r : Option DiscRecord) : (s.setDisc i r).printer = s.printer := rfl
@[simp] theorem State.setDisc_pins (s : State) (i : DiscNo) (r : Option DiscRecord) : (s.setDisc i r).pins = s.pins := rfl
@[simp] theorem State.setDisc_host (s : State) (i : DiscNo) (r : Option DiscRecord) : (s.setDisc i r).host = s.host := rfl
@[simp] theorem State.setDisc_signals (s : State) (i : DiscNo) (r : Option DiscRecord) : (s.setDisc i r).signals = s.signals := rfl
@[simp] theorem State.setDisc_draws (s : State) (i : DiscNo) (r : Option DiscRecord) : (s.setDisc i r).draws = s.draws := rfl
@[simp] theorem State.setDisc_pending (s : State) (i : DiscNo) (r : Option DiscRecord) : (s.setDisc i r).pending = s.pending := rfl

@[simp] theorem State.setFrame_port (s : State) (f : FrameNo) (v : Frame) : (s.setFrame f v).port = s.port := rfl
@[simp] theorem State.setFrame_jobs (s : State) (f : FrameNo) (v : Frame) : (s.setFrame f v).jobs = s.jobs := rfl
@[simp] theorem State.setFrame_roster (s : State) (f : FrameNo) (v : Frame) : (s.setFrame f v).roster = s.roster := rfl
@[simp] theorem State.setFrame_fetch (s : State) (f : FrameNo) (v : Frame) : (s.setFrame f v).fetch = s.fetch := rfl
@[simp] theorem State.setFrame_dram (s : State) (f : FrameNo) (v : Frame) : (s.setFrame f v).dram = s.dram := rfl
@[simp] theorem State.setFrame_lanes (s : State) (f : FrameNo) (v : Frame) : (s.setFrame f v).lanes = s.lanes := rfl
@[simp] theorem State.setFrame_links (s : State) (f : FrameNo) (v : Frame) : (s.setFrame f v).links = s.links := rfl
@[simp] theorem State.setFrame_verify (s : State) (f : FrameNo) (v : Frame) : (s.setFrame f v).verify = s.verify := rfl
@[simp] theorem State.setFrame_transport (s : State) (f : FrameNo) (v : Frame) : (s.setFrame f v).transport = s.transport := rfl
@[simp] theorem State.setFrame_bridges (s : State) (f : FrameNo) (v : Frame) : (s.setFrame f v).bridges = s.bridges := rfl
@[simp] theorem State.setFrame_printer (s : State) (f : FrameNo) (v : Frame) : (s.setFrame f v).printer = s.printer := rfl
@[simp] theorem State.setFrame_pins (s : State) (f : FrameNo) (v : Frame) : (s.setFrame f v).pins = s.pins := rfl
@[simp] theorem State.setFrame_host (s : State) (f : FrameNo) (v : Frame) : (s.setFrame f v).host = s.host := rfl
@[simp] theorem State.setFrame_signals (s : State) (f : FrameNo) (v : Frame) : (s.setFrame f v).signals = s.signals := rfl
@[simp] theorem State.setFrame_draws (s : State) (f : FrameNo) (v : Frame) : (s.setFrame f v).draws = s.draws := rfl
@[simp] theorem State.setFrame_pending (s : State) (f : FrameNo) (v : Frame) : (s.setFrame f v).pending = s.pending := rfl

@[simp] theorem State.setUnit_port (s : State) (u : UnitNo) (v : CompareUnit) : (s.setUnit u v).port = s.port := rfl
@[simp] theorem State.setUnit_jobs (s : State) (u : UnitNo) (v : CompareUnit) : (s.setUnit u v).jobs = s.jobs := rfl
@[simp] theorem State.setUnit_roster (s : State) (u : UnitNo) (v : CompareUnit) : (s.setUnit u v).roster = s.roster := rfl
@[simp] theorem State.setUnit_frames (s : State) (u : UnitNo) (v : CompareUnit) : (s.setUnit u v).frames = s.frames := rfl
@[simp] theorem State.setUnit_fetch (s : State) (u : UnitNo) (v : CompareUnit) : (s.setUnit u v).fetch = s.fetch := rfl
@[simp] theorem State.setUnit_dram (s : State) (u : UnitNo) (v : CompareUnit) : (s.setUnit u v).dram = s.dram := rfl
@[simp] theorem State.setUnit_lanes (s : State) (u : UnitNo) (v : CompareUnit) : (s.setUnit u v).lanes = s.lanes := rfl
@[simp] theorem State.setUnit_links (s : State) (u : UnitNo) (v : CompareUnit) : (s.setUnit u v).links = s.links := rfl
@[simp] theorem State.setUnit_transport (s : State) (u : UnitNo) (v : CompareUnit) : (s.setUnit u v).transport = s.transport := rfl
@[simp] theorem State.setUnit_bridges (s : State) (u : UnitNo) (v : CompareUnit) : (s.setUnit u v).bridges = s.bridges := rfl
@[simp] theorem State.setUnit_printer (s : State) (u : UnitNo) (v : CompareUnit) : (s.setUnit u v).printer = s.printer := rfl
@[simp] theorem State.setUnit_pins (s : State) (u : UnitNo) (v : CompareUnit) : (s.setUnit u v).pins = s.pins := rfl
@[simp] theorem State.setUnit_host (s : State) (u : UnitNo) (v : CompareUnit) : (s.setUnit u v).host = s.host := rfl
@[simp] theorem State.setUnit_signals (s : State) (u : UnitNo) (v : CompareUnit) : (s.setUnit u v).signals = s.signals := rfl
@[simp] theorem State.setUnit_draws (s : State) (u : UnitNo) (v : CompareUnit) : (s.setUnit u v).draws = s.draws := rfl
@[simp] theorem State.setUnit_pending (s : State) (u : UnitNo) (v : CompareUnit) : (s.setUnit u v).pending = s.pending := rfl

@[simp] theorem State.setEntry_port (s : State) (k : StationNo) (e : StationEntry) : (s.setEntry k e).port = s.port := rfl
@[simp] theorem State.setEntry_jobs (s : State) (k : StationNo) (e : StationEntry) : (s.setEntry k e).jobs = s.jobs := rfl
@[simp] theorem State.setEntry_roster (s : State) (k : StationNo) (e : StationEntry) : (s.setEntry k e).roster = s.roster := rfl
@[simp] theorem State.setEntry_frames (s : State) (k : StationNo) (e : StationEntry) : (s.setEntry k e).frames = s.frames := rfl
@[simp] theorem State.setEntry_fetch (s : State) (k : StationNo) (e : StationEntry) : (s.setEntry k e).fetch = s.fetch := rfl
@[simp] theorem State.setEntry_dram (s : State) (k : StationNo) (e : StationEntry) : (s.setEntry k e).dram = s.dram := rfl
@[simp] theorem State.setEntry_lanes (s : State) (k : StationNo) (e : StationEntry) : (s.setEntry k e).lanes = s.lanes := rfl
@[simp] theorem State.setEntry_links (s : State) (k : StationNo) (e : StationEntry) : (s.setEntry k e).links = s.links := rfl
@[simp] theorem State.setEntry_verify (s : State) (k : StationNo) (e : StationEntry) : (s.setEntry k e).verify = s.verify := rfl
@[simp] theorem State.setEntry_bridges (s : State) (k : StationNo) (e : StationEntry) : (s.setEntry k e).bridges = s.bridges := rfl
@[simp] theorem State.setEntry_printer (s : State) (k : StationNo) (e : StationEntry) : (s.setEntry k e).printer = s.printer := rfl
@[simp] theorem State.setEntry_pins (s : State) (k : StationNo) (e : StationEntry) : (s.setEntry k e).pins = s.pins := rfl
@[simp] theorem State.setEntry_host (s : State) (k : StationNo) (e : StationEntry) : (s.setEntry k e).host = s.host := rfl
@[simp] theorem State.setEntry_signals (s : State) (k : StationNo) (e : StationEntry) : (s.setEntry k e).signals = s.signals := rfl
@[simp] theorem State.setEntry_draws (s : State) (k : StationNo) (e : StationEntry) : (s.setEntry k e).draws = s.draws := rfl
@[simp] theorem State.setEntry_pending (s : State) (k : StationNo) (e : StationEntry) : (s.setEntry k e).pending = s.pending := rfl

@[simp] theorem State.setQueued_port (s : State) (r : RequesterNo) (t : Option Task) : (s.setQueued r t).port = s.port := rfl
@[simp] theorem State.setQueued_jobs (s : State) (r : RequesterNo) (t : Option Task) : (s.setQueued r t).jobs = s.jobs := rfl
@[simp] theorem State.setQueued_roster (s : State) (r : RequesterNo) (t : Option Task) : (s.setQueued r t).roster = s.roster := rfl
@[simp] theorem State.setQueued_frames (s : State) (r : RequesterNo) (t : Option Task) : (s.setQueued r t).frames = s.frames := rfl
@[simp] theorem State.setQueued_fetch (s : State) (r : RequesterNo) (t : Option Task) : (s.setQueued r t).fetch = s.fetch := rfl
@[simp] theorem State.setQueued_dram (s : State) (r : RequesterNo) (t : Option Task) : (s.setQueued r t).dram = s.dram := rfl
@[simp] theorem State.setQueued_lanes (s : State) (r : RequesterNo) (t : Option Task) : (s.setQueued r t).lanes = s.lanes := rfl
@[simp] theorem State.setQueued_links (s : State) (r : RequesterNo) (t : Option Task) : (s.setQueued r t).links = s.links := rfl
@[simp] theorem State.setQueued_verify (s : State) (r : RequesterNo) (t : Option Task) : (s.setQueued r t).verify = s.verify := rfl
@[simp] theorem State.setQueued_bridges (s : State) (r : RequesterNo) (t : Option Task) : (s.setQueued r t).bridges = s.bridges := rfl
@[simp] theorem State.setQueued_printer (s : State) (r : RequesterNo) (t : Option Task) : (s.setQueued r t).printer = s.printer := rfl
@[simp] theorem State.setQueued_pins (s : State) (r : RequesterNo) (t : Option Task) : (s.setQueued r t).pins = s.pins := rfl
@[simp] theorem State.setQueued_host (s : State) (r : RequesterNo) (t : Option Task) : (s.setQueued r t).host = s.host := rfl
@[simp] theorem State.setQueued_signals (s : State) (r : RequesterNo) (t : Option Task) : (s.setQueued r t).signals = s.signals := rfl
@[simp] theorem State.setQueued_draws (s : State) (r : RequesterNo) (t : Option Task) : (s.setQueued r t).draws = s.draws := rfl
@[simp] theorem State.setQueued_pending (s : State) (r : RequesterNo) (t : Option Task) : (s.setQueued r t).pending = s.pending := rfl

@[simp] theorem State.advanceTo_jobs (s : State) (t : Nat) : (s.advanceTo t).jobs = s.jobs := rfl
@[simp] theorem State.advanceTo_roster (s : State) (t : Nat) : (s.advanceTo t).roster = s.roster := rfl
@[simp] theorem State.advanceTo_frames (s : State) (t : Nat) : (s.advanceTo t).frames = s.frames := rfl
@[simp] theorem State.advanceTo_fetch (s : State) (t : Nat) : (s.advanceTo t).fetch = s.fetch := rfl
@[simp] theorem State.advanceTo_dram (s : State) (t : Nat) : (s.advanceTo t).dram = s.dram := rfl
@[simp] theorem State.advanceTo_lanes (s : State) (t : Nat) : (s.advanceTo t).lanes = s.lanes := rfl
@[simp] theorem State.advanceTo_links (s : State) (t : Nat) : (s.advanceTo t).links = s.links := rfl
@[simp] theorem State.advanceTo_verify (s : State) (t : Nat) : (s.advanceTo t).verify = s.verify := rfl
@[simp] theorem State.advanceTo_transport (s : State) (t : Nat) : (s.advanceTo t).transport = s.transport := rfl
@[simp] theorem State.advanceTo_bridges (s : State) (t : Nat) : (s.advanceTo t).bridges = s.bridges := rfl
@[simp] theorem State.advanceTo_printer (s : State) (t : Nat) : (s.advanceTo t).printer = s.printer := rfl
@[simp] theorem State.advanceTo_pins (s : State) (t : Nat) : (s.advanceTo t).pins = s.pins := rfl
@[simp] theorem State.advanceTo_host (s : State) (t : Nat) : (s.advanceTo t).host = s.host := rfl
@[simp] theorem State.advanceTo_signals (s : State) (t : Nat) : (s.advanceTo t).signals = s.signals := rfl
@[simp] theorem State.advanceTo_draws (s : State) (t : Nat) : (s.advanceTo t).draws = s.draws := rfl
@[simp] theorem State.advanceTo_pending (s : State) (t : Nat) : (s.advanceTo t).pending = s.pending := rfl

@[simp] theorem State.emit_port (s : State) (g : Signal) : (s.emit g).port = s.port := rfl
@[simp] theorem State.emit_jobs (s : State) (g : Signal) : (s.emit g).jobs = s.jobs := rfl
@[simp] theorem State.emit_roster (s : State) (g : Signal) : (s.emit g).roster = s.roster := rfl
@[simp] theorem State.emit_frames (s : State) (g : Signal) : (s.emit g).frames = s.frames := rfl
@[simp] theorem State.emit_fetch (s : State) (g : Signal) : (s.emit g).fetch = s.fetch := rfl
@[simp] theorem State.emit_dram (s : State) (g : Signal) : (s.emit g).dram = s.dram := rfl
@[simp] theorem State.emit_lanes (s : State) (g : Signal) : (s.emit g).lanes = s.lanes := rfl
@[simp] theorem State.emit_links (s : State) (g : Signal) : (s.emit g).links = s.links := rfl
@[simp] theorem State.emit_verify (s : State) (g : Signal) : (s.emit g).verify = s.verify := rfl
@[simp] theorem State.emit_transport (s : State) (g : Signal) : (s.emit g).transport = s.transport := rfl
@[simp] theorem State.emit_bridges (s : State) (g : Signal) : (s.emit g).bridges = s.bridges := rfl
@[simp] theorem State.emit_printer (s : State) (g : Signal) : (s.emit g).printer = s.printer := rfl
@[simp] theorem State.emit_pins (s : State) (g : Signal) : (s.emit g).pins = s.pins := rfl
@[simp] theorem State.emit_host (s : State) (g : Signal) : (s.emit g).host = s.host := rfl
@[simp] theorem State.emit_draws (s : State) (g : Signal) : (s.emit g).draws = s.draws := rfl
@[simp] theorem State.emit_pending (s : State) (g : Signal) : (s.emit g).pending = s.pending := rfl
@[simp] theorem State.emit_signals (s : State) (g : Signal) : (s.emit g).signals = s.signals ++ [g] := rfl

@[simp] theorem State.tick_jobs (s : State) : s.tick.jobs = s.jobs := rfl
@[simp] theorem State.tick_roster (s : State) : s.tick.roster = s.roster := rfl
@[simp] theorem State.tick_frames (s : State) : s.tick.frames = s.frames := rfl
@[simp] theorem State.tick_fetch (s : State) : s.tick.fetch = s.fetch := rfl
@[simp] theorem State.tick_dram (s : State) : s.tick.dram = s.dram := rfl
@[simp] theorem State.tick_lanes (s : State) : s.tick.lanes = s.lanes := rfl
@[simp] theorem State.tick_links (s : State) : s.tick.links = s.links := rfl
@[simp] theorem State.tick_verify (s : State) : s.tick.verify = s.verify := rfl
@[simp] theorem State.tick_transport (s : State) : s.tick.transport = s.transport := rfl
@[simp] theorem State.tick_bridges (s : State) : s.tick.bridges = s.bridges := rfl
@[simp] theorem State.tick_printer (s : State) : s.tick.printer = s.printer := rfl
@[simp] theorem State.tick_pins (s : State) : s.tick.pins = s.pins := rfl
@[simp] theorem State.tick_host (s : State) : s.tick.host = s.host := rfl
@[simp] theorem State.tick_signals (s : State) : s.tick.signals = s.signals := rfl
@[simp] theorem State.tick_draws (s : State) : s.tick.draws = s.draws := rfl
@[simp] theorem State.tick_pending (s : State) : s.tick.pending = s.pending := rfl
@[simp] theorem State.advanceTo_port_windowBase (s : State) (t : Nat) : (s.advanceTo t).port.windowBase = s.port.windowBase := rfl
@[simp] theorem State.advanceTo_port_windowSize (s : State) (t : Nat) : (s.advanceTo t).port.windowSize = s.port.windowSize := rfl
@[simp] theorem State.advanceTo_port_part (s : State) (t : Nat) : (s.advanceTo t).port.part = s.port.part := rfl
@[simp] theorem State.advanceTo_port_stopPending (s : State) (t : Nat) : (s.advanceTo t).port.stopPending = s.port.stopPending := rfl
@[simp] theorem State.advanceTo_port_causeEnables (s : State) (t : Nat) : (s.advanceTo t).port.causeEnables = s.port.causeEnables := rfl
@[simp] theorem State.advanceTo_port_logEnables (s : State) (t : Nat) : (s.advanceTo t).port.logEnables = s.port.logEnables := rfl
@[simp] theorem State.advanceTo_port_cause (s : State) (t : Nat) : (s.advanceTo t).port.cause = s.port.cause := rfl
@[simp] theorem State.advanceTo_port_current (s : State) (t : Nat) : (s.advanceTo t).port.current = s.port.current := rfl
@[simp] theorem State.advanceTo_port_next (s : State) (t : Nat) : (s.advanceTo t).port.next = s.port.next := rfl
@[simp] theorem State.advanceTo_port_logCount (s : State) (t : Nat) : (s.advanceTo t).port.logCount = s.port.logCount := rfl
@[simp] theorem State.advanceTo_port_updateCount (s : State) (t : Nat) : (s.advanceTo t).port.updateCount = s.port.updateCount := rfl
@[simp] theorem State.advanceTo_port_readData (s : State) (t : Nat) : (s.advanceTo t).port.readData = s.port.readData := rfl

/-! ### Read-back -/

theorem Vector.getElem_fin_set {α : Type} {n : Nat} (v : Vector α n) (i j : Fin n) (x : α) :
    (v.set i.val x i.isLt)[j] = if j = i then x else v[j] := by
  simp only [Fin.getElem_fin, Vector.getElem_set, Fin.ext_iff, eq_comm]

theorem State.lane_setLane (s : State) (n m : LaneNo) (v : Lane) :
    (s.setLane n v).lane m = if m = n then v else s.lane m := Vector.getElem_fin_set _ _ _ _
@[simp] theorem State.lane_setLane_self (s : State) (n : LaneNo) (v : Lane) : (s.setLane n v).lane n = v := by
  rw [State.lane_setLane]; simp
theorem State.lane_setLane_ne (s : State) (n m : LaneNo) (v : Lane) (h : m ≠ n) : (s.setLane n v).lane m = s.lane m := by
  rw [State.lane_setLane]; simp [h]
theorem State.link_setLink (s : State) (n m : LaneNo) (v : Link) :
    (s.setLink n v).link m = if m = n then v else s.link m := Vector.getElem_fin_set _ _ _ _
@[simp] theorem State.link_setLink_self (s : State) (n : LaneNo) (v : Link) : (s.setLink n v).link n = v := by
  rw [State.link_setLink]; simp
theorem State.link_setLink_ne (s : State) (n m : LaneNo) (v : Link) (h : m ≠ n) : (s.setLink n v).link m = s.link m := by
  rw [State.link_setLink]; simp [h]
theorem State.job_setJob (s : State) (j k : SlotNo) (v : Job) :
    (s.setJob j v).job k = if k = j then v else s.job k := Vector.getElem_fin_set _ _ _ _
@[simp] theorem State.job_setJob_self (s : State) (j : SlotNo) (v : Job) : (s.setJob j v).job j = v := by
  rw [State.job_setJob]; simp
theorem State.job_setJob_ne (s : State) (j k : SlotNo) (v : Job) (h : k ≠ j) : (s.setJob j v).job k = s.job k := by
  rw [State.job_setJob]; simp [h]
theorem State.disc_setDisc (s : State) (i k : DiscNo) (v : Option DiscRecord) :
    (s.setDisc i v).disc k = if k = i then v else s.disc k := Vector.getElem_fin_set _ _ _ _
@[simp] theorem State.disc_setDisc_self (s : State) (i : DiscNo) (v : Option DiscRecord) : (s.setDisc i v).disc i = v := by
  rw [State.disc_setDisc]; simp
theorem State.disc_setDisc_ne (s : State) (i k : DiscNo) (v : Option DiscRecord) (h : k ≠ i) : (s.setDisc i v).disc k = s.disc k := by
  rw [State.disc_setDisc]; simp [h]
theorem State.frame_setFrame (s : State) (f g : FrameNo) (v : Frame) :
    (s.setFrame f v).frame g = if g = f then v else s.frame g := Vector.getElem_fin_set _ _ _ _
@[simp] theorem State.frame_setFrame_self (s : State) (f : FrameNo) (v : Frame) : (s.setFrame f v).frame f = v := by
  rw [State.frame_setFrame]; simp
theorem State.frame_setFrame_ne (s : State) (f g : FrameNo) (v : Frame) (h : g ≠ f) : (s.setFrame f v).frame g = s.frame g := by
  rw [State.frame_setFrame]; simp [h]
theorem State.unit_setUnit (s : State) (u w : UnitNo) (v : CompareUnit) :
    (s.setUnit u v).unit w = if w = u then v else s.unit w := Vector.getElem_fin_set _ _ _ _
@[simp] theorem State.unit_setUnit_self (s : State) (u : UnitNo) (v : CompareUnit) : (s.setUnit u v).unit u = v := by
  rw [State.unit_setUnit]; simp
theorem State.unit_setUnit_ne (s : State) (u w : UnitNo) (v : CompareUnit) (h : w ≠ u) : (s.setUnit u v).unit w = s.unit w := by
  rw [State.unit_setUnit]; simp [h]
theorem State.entry_setEntry (s : State) (k m : StationNo) (v : StationEntry) :
    (s.setEntry k v).entry m = if m = k then v else s.entry m := Vector.getElem_fin_set _ _ _ _
@[simp] theorem State.entry_setEntry_self (s : State) (k : StationNo) (v : StationEntry) : (s.setEntry k v).entry k = v := by
  rw [State.entry_setEntry]; simp
theorem State.entry_setEntry_ne (s : State) (k m : StationNo) (v : StationEntry) (h : m ≠ k) : (s.setEntry k v).entry m = s.entry m := by
  rw [State.entry_setEntry]; simp [h]
theorem State.queued_setQueued (s : State) (r q : RequesterNo) (v : Option Task) :
    (s.setQueued r v).queued q = if q = r then v else s.queued q := Vector.getElem_fin_set _ _ _ _
@[simp] theorem State.queued_setQueued_self (s : State) (r : RequesterNo) (v : Option Task) : (s.setQueued r v).queued r = v := by
  rw [State.queued_setQueued]; simp
theorem State.queued_setQueued_ne (s : State) (r q : RequesterNo) (v : Option Task) (h : q ≠ r) : (s.setQueued r v).queued q = s.queued q := by
  rw [State.queued_setQueued]; simp [h]
@[simp] theorem State.lane_updLane_self (s : State) (n : LaneNo) (f : Lane → Lane) : (s.updLane n f).lane n = f (s.lane n) := by
  simp [State.updLane]
theorem State.lane_updLane_ne (s : State) (n m : LaneNo) (f : Lane → Lane) (h : m ≠ n) : (s.updLane n f).lane m = s.lane m :=
  State.lane_setLane_ne s n m _ h

/-- The accessors read the state they name. -/
theorem State.lane_of_lanes (s t : State) (h : s.lanes = t.lanes) (n : LaneNo) : s.lane n = t.lane n := by
  simp [State.lane, h]
theorem State.job_of_jobs (s t : State) (h : s.jobs = t.jobs) (j : SlotNo) : s.job j = t.job j := by
  simp [State.job, h]
theorem State.disc_of_roster (s t : State) (h : s.roster = t.roster) (i : DiscNo) : s.disc i = t.disc i := by
  simp [State.disc, h]
theorem State.link_of_links (s t : State) (h : s.links = t.links) (n : LaneNo) : s.link n = t.link n := by
  simp [State.link, h]
theorem State.entry_of_transport (s t : State) (h : s.transport = t.transport) (k : StationNo) : s.entry k = t.entry k := by
  simp [State.entry, h]

end Sys2Proof.Machine
end

