-- ==== Sys2Proof/Laws/Port.lean ====
section
/-! SUPPORT. What a report and a log entry can do: they write their bytes and the header in host memory, advance the counts and may
set LOG; every other field stands. -/

namespace Sys2Proof.Machine

/-! ### Records have their size -/

@[simp] theorem fitBytes_length (n : Nat) (bs : List Byte) : (fitBytes n bs).length = n := by
  simp [fitBytes, List.length_take]

@[simp] theorem buildRecord_length (n : Nat) (fs : List (Nat × List Byte)) : (buildRecord n fs).length = n := by
  simp [buildRecord]

@[simp] theorem headerBytes_length (p : Port) : (headerBytes p).length = 256 := by simp [headerBytes]
@[simp] theorem logBytes_length (n t : Nat) (k : LogKind) (x : Nat) (d : List Byte) : (logBytes n t k x d).length = 32 := by
  simp [logBytes]
@[simp] theorem jobBlock_length (j : Job) : (jobBlock j).length = 256 := by simp [jobBlock]
@[simp] theorem laneBlock_length (l : Lane) (up : Bool) : (laneBlock l up).length = 128 := by simp [laneBlock]
@[simp] theorem entryBytes_length (e : StationEntry) : (entryBytes e).length = 16 := by simp [entryBytes]
@[simp] theorem transportBlock_length (t : Transport) : (transportBlock t).length = 64 := by simp [transportBlock]
@[simp] theorem printerBlock_length (p : Printer) : (printerBlock p).length = 64 := by simp [printerBlock]

/-! ### What a report is -/

/-- A report in a part state that writes the window, in full. -/
theorem report_open {o : Nat} {bs : List Byte} {s : State} (h : windowOpen s = true) :
    report o bs s =
      { s with
        port := { s.port with updateCount := s.port.updateCount.advance max32 }
        host := Memory.writeBytes (Memory.writeBytes s.host (s.port.windowBase.toNat + o) bs) (s.port.windowBase.toNat + 0)
          (headerBytes { s.port with updateCount := s.port.updateCount.advance max32 }) } := by
  simp only [report, h, if_true, putHeader, countUpdate, windowWrite, hostWrite]

/-- The host's memory after a report: the region's bytes, and over them the header as it then stands. -/
theorem report_host {o : Nat} {bs : List Byte} {s : State} (h : windowOpen s = true) :
    (report o bs s).host = Memory.writeBytes (Memory.writeBytes s.host (s.port.windowBase.toNat + o) bs) s.port.windowBase.toNat
      (headerBytes (report o bs s).port) := by
  simp only [report_open h, Nat.add_zero]

theorem report_closed {o : Nat} {bs : List Byte} {s : State} (h : s.port.part = .stopped) : report o bs s = s := by
  simp [report, windowOpen, h]

theorem logEntry_closed {k : LogKind} {x : Nat} {d : List Byte} {s : State} (h : s.port.part = .stopped) :
    logEntry k x d s = s := by
  simp [logEntry, windowOpen, h]

/-! ### What `report` leaves -/

@[simp] theorem report_jobs (o : Nat) (bs : List Byte) (s : State) : (report o bs s).jobs = s.jobs := by
  unfold report; split <;> rfl
@[simp] theorem report_roster (o : Nat) (bs : List Byte) (s : State) : (report o bs s).roster = s.roster := by
  unfold report; split <;> rfl
@[simp] theorem report_frames (o : Nat) (bs : List Byte) (s : State) : (report o bs s).frames = s.frames := by
  unfold report; split <;> rfl
@[simp] theorem report_fetch (o : Nat) (bs : List Byte) (s : State) : (report o bs s).fetch = s.fetch := by
  unfold report; split <;> rfl
@[simp] theorem report_dram (o : Nat) (bs : List Byte) (s : State) : (report o bs s).dram = s.dram := by
  unfold report; split <;> rfl
@[simp] theorem report_lanes (o : Nat) (bs : List Byte) (s : State) : (report o bs s).lanes = s.lanes := by
  unfold report; split <;> rfl
@[simp] theorem report_links (o : Nat) (bs : List Byte) (s : State) : (report o bs s).links = s.links := by
  unfold report; split <;> rfl
@[simp] theorem report_verify (o : Nat) (bs : List Byte) (s : State) : (report o bs s).verify = s.verify := by
  unfold report; split <;> rfl
@[simp] theorem report_transport (o : Nat) (bs : List Byte) (s : State) : (report o bs s).transport = s.transport := by
  unfold report; split <;> rfl
@[simp] theorem report_printer (o : Nat) (bs : List Byte) (s : State) : (report o bs s).printer = s.printer := by
  unfold report; split <;> rfl
@[simp] theorem report_pins (o : Nat) (bs : List Byte) (s : State) : (report o bs s).pins = s.pins := by
  unfold report; split <;> rfl
@[simp] theorem report_bridges (o : Nat) (bs : List Byte) (s : State) : (report o bs s).bridges = s.bridges := by
  unfold report; split <;> rfl
@[simp] theorem report_draws (o : Nat) (bs : List Byte) (s : State) : (report o bs s).draws = s.draws := by
  unfold report; split <;> rfl
@[simp] theorem report_signals (o : Nat) (bs : List Byte) (s : State) : (report o bs s).signals = s.signals := by
  unfold report; split <;> rfl
@[simp] theorem report_pending (o : Nat) (bs : List Byte) (s : State) : (report o bs s).pending = s.pending := by
  unfold report; split <;> rfl
@[simp] theorem report_port_windowBase (o : Nat) (bs : List Byte) (s : State) : (report o bs s).port.windowBase = s.port.windowBase := by
  unfold report; split <;> rfl
@[simp] theorem report_port_windowSize (o : Nat) (bs : List Byte) (s : State) : (report o bs s).port.windowSize = s.port.windowSize := by
  unfold report; split <;> rfl
@[simp] theorem report_port_part (o : Nat) (bs : List Byte) (s : State) : (report o bs s).port.part = s.port.part := by
  unfold report; split <;> rfl
@[simp] theorem report_port_stopPending (o : Nat) (bs : List Byte) (s : State) : (report o bs s).port.stopPending = s.port.stopPending := by
  unfold report; split <;> rfl
@[simp] theorem report_port_causeEnables (o : Nat) (bs : List Byte) (s : State) : (report o bs s).port.causeEnables = s.port.causeEnables := by
  unfold report; split <;> rfl
@[simp] theorem report_port_logEnables (o : Nat) (bs : List Byte) (s : State) : (report o bs s).port.logEnables = s.port.logEnables := by
  unfold report; split <;> rfl
@[simp] theorem report_port_current (o : Nat) (bs : List Byte) (s : State) : (report o bs s).port.current = s.port.current := by
  unfold report; split <;> rfl
@[simp] theorem report_port_next (o : Nat) (bs : List Byte) (s : State) : (report o bs s).port.next = s.port.next := by
  unfold report; split <;> rfl
@[simp] theorem report_port_timeBase (o : Nat) (bs : List Byte) (s : State) : (report o bs s).port.timeBase = s.port.timeBase := by
  unfold report; split <;> rfl
@[simp] theorem report_port_readData (o : Nat) (bs : List Byte) (s : State) : (report o bs s).port.readData = s.port.readData := by
  unfold report; split <;> rfl

/-! ### What `logEntry` leaves -/

@[simp] theorem logEntry_jobs (k : LogKind) (x : Nat) (d : List Byte) (s : State) : (logEntry k x d s).jobs = s.jobs := by
  unfold logEntry; split
  · dsimp only; split <;> simp only [setCause, putHeader, countUpdate, windowWrite, hostWrite]
  · rfl
@[simp] theorem logEntry_roster (k : LogKind) (x : Nat) (d : List Byte) (s : State) : (logEntry k x d s).roster = s.roster := by
  unfold logEntry; split
  · dsimp only; split <;> simp only [setCause, putHeader, countUpdate, windowWrite, hostWrite]
  · rfl
@[simp] theorem logEntry_frames (k : LogKind) (x : Nat) (d : List Byte) (s : State) : (logEntry k x d s).frames = s.frames := by
  unfold logEntry; split
  · dsimp only; split <;> simp only [setCause, putHeader, countUpdate, windowWrite, hostWrite]
  · rfl
@[simp] theorem logEntry_fetch (k : LogKind) (x : Nat) (d : List Byte) (s : State) : (logEntry k x d s).fetch = s.fetch := by
  unfold logEntry; split
  · dsimp only; split <;> simp only [setCause, putHeader, countUpdate, windowWrite, hostWrite]
  · rfl
@[simp] theorem logEntry_dram (k : LogKind) (x : Nat) (d : List Byte) (s : State) : (logEntry k x d s).dram = s.dram := by
  unfold logEntry; split
  · dsimp only; split <;> simp only [setCause, putHeader, countUpdate, windowWrite, hostWrite]
  · rfl
@[simp] theorem logEntry_lanes (k : LogKind) (x : Nat) (d : List Byte) (s : State) : (logEntry k x d s).lanes = s.lanes := by
  unfold logEntry; split
  · dsimp only; split <;> simp only [setCause, putHeader, countUpdate, windowWrite, hostWrite]
  · rfl
@[simp] theorem logEntry_links (k : LogKind) (x : Nat) (d : List Byte) (s : State) : (logEntry k x d s).links = s.links := by
  unfold logEntry; split
  · dsimp only; split <;> simp only [setCause, putHeader, countUpdate, windowWrite, hostWrite]
  · rfl
@[simp] theorem logEntry_verify (k : LogKind) (x : Nat) (d : List Byte) (s : State) : (logEntry k x d s).verify = s.verify := by
  unfold logEntry; split
  · dsimp only; split <;> simp only [setCause, putHeader, countUpdate, windowWrite, hostWrite]
  · rfl
@[simp] theorem logEntry_transport (k : LogKind) (x : Nat) (d : List Byte) (s : State) : (logEntry k x d s).transport = s.transport := by
  unfold logEntry; split
  · dsimp only; split <;> simp only [setCause, putHeader, countUpdate, windowWrite, hostWrite]
  · rfl
@[simp] theorem logEntry_printer (k : LogKind) (x : Nat) (d : List Byte) (s : State) : (logEntry k x d s).printer = s.printer := by
  unfold logEntry; split
  · dsimp only; split <;> simp only [setCause, putHeader, countUpdate, windowWrite, hostWrite]
  · rfl
@[simp] theorem logEntry_pins (k : LogKind) (x : Nat) (d : List Byte) (s : State) : (logEntry k x d s).pins = s.pins := by
  unfold logEntry; split
  · dsimp only; split <;> simp only [setCause, putHeader, countUpdate, windowWrite, hostWrite]
  · rfl
@[simp] theorem logEntry_bridges (k : LogKind) (x : Nat) (d : List Byte) (s : State) : (logEntry k x d s).bridges = s.bridges := by
  unfold logEntry; split
  · dsimp only; split <;> simp only [setCause, putHeader, countUpdate, windowWrite, hostWrite]
  · rfl
@[simp] theorem logEntry_draws (k : LogKind) (x : Nat) (d : List Byte) (s : State) : (logEntry k x d s).draws = s.draws := by
  unfold logEntry; split
  · dsimp only; split <;> simp only [setCause, putHeader, countUpdate, windowWrite, hostWrite]
  · rfl
@[simp] theorem logEntry_signals (k : LogKind) (x : Nat) (d : List Byte) (s : State) : (logEntry k x d s).signals = s.signals := by
  unfold logEntry; split
  · dsimp only; split <;> simp only [setCause, putHeader, countUpdate, windowWrite, hostWrite]
  · rfl
@[simp] theorem logEntry_pending (k : LogKind) (x : Nat) (d : List Byte) (s : State) : (logEntry k x d s).pending = s.pending := by
  unfold logEntry; split
  · dsimp only; split <;> simp only [setCause, putHeader, countUpdate, windowWrite, hostWrite]
  · rfl
@[simp] theorem logEntry_port_windowBase (k : LogKind) (x : Nat) (d : List Byte) (s : State) : (logEntry k x d s).port.windowBase = s.port.windowBase := by
  unfold logEntry; split
  · dsimp only; split <;> simp only [setCause, putHeader, countUpdate, windowWrite, hostWrite]
  · rfl
@[simp] theorem logEntry_port_windowSize (k : LogKind) (x : Nat) (d : List Byte) (s : State) : (logEntry k x d s).port.windowSize = s.port.windowSize := by
  unfold logEntry; split
  · dsimp only; split <;> simp only [setCause, putHeader, countUpdate, windowWrite, hostWrite]
  · rfl
@[simp] theorem logEntry_port_part (k : LogKind) (x : Nat) (d : List Byte) (s : State) : (logEntry k x d s).port.part = s.port.part := by
  unfold logEntry; split
  · dsimp only; split <;> simp only [setCause, putHeader, countUpdate, windowWrite, hostWrite]
  · rfl
@[simp] theorem logEntry_port_stopPending (k : LogKind) (x : Nat) (d : List Byte) (s : State) : (logEntry k x d s).port.stopPending = s.port.stopPending := by
  unfold logEntry; split
  · dsimp only; split <;> simp only [setCause, putHeader, countUpdate, windowWrite, hostWrite]
  · rfl
@[simp] theorem logEntry_port_causeEnables (k : LogKind) (x : Nat) (d : List Byte) (s : State) : (logEntry k x d s).port.causeEnables = s.port.causeEnables := by
  unfold logEntry; split
  · dsimp only; split <;> simp only [setCause, putHeader, countUpdate, windowWrite, hostWrite]
  · rfl
@[simp] theorem logEntry_port_logEnables (k : LogKind) (x : Nat) (d : List Byte) (s : State) : (logEntry k x d s).port.logEnables = s.port.logEnables := by
  unfold logEntry; split
  · dsimp only; split <;> simp only [setCause, putHeader, countUpdate, windowWrite, hostWrite]
  · rfl
@[simp] theorem logEntry_port_current (k : LogKind) (x : Nat) (d : List Byte) (s : State) : (logEntry k x d s).port.current = s.port.current := by
  unfold logEntry; split
  · dsimp only; split <;> simp only [setCause, putHeader, countUpdate, windowWrite, hostWrite]
  · rfl
@[simp] theorem logEntry_port_next (k : LogKind) (x : Nat) (d : List Byte) (s : State) : (logEntry k x d s).port.next = s.port.next := by
  unfold logEntry; split
  · dsimp only; split <;> simp only [setCause, putHeader, countUpdate, windowWrite, hostWrite]
  · rfl
@[simp] theorem logEntry_port_timeBase (k : LogKind) (x : Nat) (d : List Byte) (s : State) : (logEntry k x d s).port.timeBase = s.port.timeBase := by
  unfold logEntry; split
  · dsimp only; split <;> simp only [setCause, putHeader, countUpdate, windowWrite, hostWrite]
  · rfl
@[simp] theorem logEntry_port_readData (k : LogKind) (x : Nat) (d : List Byte) (s : State) : (logEntry k x d s).port.readData = s.port.readData := by
  unfold logEntry; split
  · dsimp only; split <;> simp only [setCause, putHeader, countUpdate, windowWrite, hostWrite]
  · rfl

/-! ### Reports change the port and host memory alone -/

theorem report_rest (o : Nat) (bs : List Byte) (s : State) :
    report o bs s = { s with port := (report o bs s).port, host := (report o bs s).host } := by
  unfold report
  split
  · simp only [putHeader, countUpdate, windowWrite, hostWrite]
  · rfl

theorem logEntry_rest (k : LogKind) (x : Nat) (d : List Byte) (s : State) :
    logEntry k x d s = { s with port := (logEntry k x d s).port, host := (logEntry k x d s).host } := by
  unfold logEntry
  split
  · dsimp only
    split <;> simp only [setCause, putHeader, countUpdate, windowWrite, hostWrite]
  · rfl

theorem updDisc_signals (i : DiscNo) (f : DiscRecord → DiscRecord) (s : State) : (updDisc i f s).signals = s.signals := by
  unfold updDisc
  split
  · split
    · rfl
    · simp [writeRecord]
  · rfl

/-! ### Sheet writes -/

/-- A write of a sheet's state or results, in full: it takes effect or not, and one free value is drawn. -/
theorem sheetWrite_eq (a : Nat) (bs : List Byte) (s : State) :
    sheetWrite a bs s =
      { s with host := if Config.sheetWriteLands s.draws then Memory.writeBytes s.host a bs else s.host, draws := s.draws + 1 } := by
  unfold sheetWrite State.draw hostWrite
  split <;> rfl

@[simp] theorem sheetWrite_port (a : Nat) (bs : List Byte) (s : State) : (sheetWrite a bs s).port = s.port := by
  rw [sheetWrite_eq]
@[simp] theorem sheetWrite_signals (a : Nat) (bs : List Byte) (s : State) : (sheetWrite a bs s).signals = s.signals := by
  rw [sheetWrite_eq]
@[simp] theorem sheetWrite_draws (a : Nat) (bs : List Byte) (s : State) : (sheetWrite a bs s).draws = s.draws + 1 := by
  rw [sheetWrite_eq]

theorem finishEntry_signals (c : ResultCode) (d : List Byte) (s : State) : (finishEntry c d s).signals = s.signals := by
  unfold finishEntry
  split
  · dsimp only
    split
    · simp
    · unfold returnSheet
      split <;> simp [setCause]
  · rfl

end Sys2Proof.Machine
end

