-- ==== Sys2Proof/Laws/KeepsBase.lean ====
section
/-! SUPPORT. What the part keeps (`Keeps`): what every report, write and update of an indexed part keeps. -/

namespace Sys2Proof.Machine

/-- The part writes its window, which shows the jobs, the map and the transport status, and no held sheet lies in it (R1, R124, R130). -/
def Reporting (s : State) : Prop := s.port.part ≠ .stopped ∧ MemoriesWf s ∧ SheetsBeyond s ∧ WindowShows s

/-- What a state keeps of an earlier one: the window registers, the cause enables, the waiting commands and
the legs of the bridges stand (R144, R176); a cause set
stays set (R186); the time base and the counts do not fall and stay in their widths (2.3, R184, R185); the memories keep their
canonical form; and a window that shows the jobs, the map and the transport status goes on to show them until the part is STOPPED (R1, R124,
R130, R175). -/
structure Keeps (s t : State) : Prop where
  base : t.port.windowBase = s.port.windowBase
  size : t.port.windowSize = s.port.windowSize
  enables : t.port.causeEnables = s.port.causeEnables
  pending : t.pending = s.pending
  bridges : t.bridges = s.bridges
  cause : s.port.cause &&& t.port.cause = s.port.cause
  time : s.port.timeBase ≤ t.port.timeBase ∨ timeMax < s.port.timeBase
  logs : s.port.logCount.value ≤ t.port.logCount.value ∨ max32 < s.port.logCount.value
  updates : s.port.updateCount.value ≤ t.port.updateCount.value ∨ max32 < s.port.updateCount.value
  fits : CountsFit s → CountsFit t
  memories : MemoriesWf s → MemoriesWf t
  shows : Reporting s → t.port.part = .stopped ∨ (SheetsBeyond t ∧ WindowShows t)

theorem Keeps.refl (s : State) : Keeps s s :=
  ⟨rfl, rfl, rfl, rfl, rfl, by simp, .inl (Nat.le_refl _), .inl (Nat.le_refl _), .inl (Nat.le_refl _), id, id,
    fun h => .inr ⟨h.2.2.1, h.2.2.2⟩⟩

/-- The fields that `Keeps` does not look at. -/
theorem keeps_with {r s : State} {roster frames fetch links verify printer pins signals draws} (h : Keeps r s) :
    Keeps r ⟨s.port, s.jobs, roster, frames, fetch, s.dram, s.lanes, links, verify, s.transport, s.bridges, printer, pins, s.host, signals,
      draws, s.pending⟩ :=
  ⟨h.base, h.size, h.enables, h.pending, h.bridges, h.cause, h.time, h.logs, h.updates, h.fits, h.memories, h.shows⟩

/-- The items of the transport that neither its status nor the map shows. -/
theorem keeps_unseen {r s : State} {transport} (h : Keeps r s) (ht : transportBlock transport = transportBlock s.transport)
    (hm : transport.map = s.transport.map) : Keeps r { s with transport := transport } :=
  ⟨h.base, h.size, h.enables, h.pending, h.bridges, h.cause, h.time, h.logs, h.updates, h.fits, h.memories, fun hr =>
    (h.shows hr).imp id fun hs => ⟨hs.1, hs.2.1,
      fun k => by have h2 := hs.2.2.1 k; simp only [State.entry, ← hm] at h2; exact h2,
      by have h2 := hs.2.2.2; rw [← ht] at h2; exact h2⟩⟩

/-- New lanes whose counts fit wherever the old ones' do. -/
theorem keeps_lanes {r s : State} {lanes} (h : Keeps r s)
    (hl : (∀ n : LaneNo, LaneFits (s.lane n)) → ∀ n : LaneNo, LaneFits lanes[n]) : Keeps r { s with lanes := lanes } :=
  ⟨h.base, h.size, h.enables, h.pending, h.bridges, h.cause, h.time, h.logs, h.updates,
    fun hr => have hf := h.fits hr; ⟨hf.1, hf.2.1, hf.2.2.1, hl hf.2.2.2.1, hf.2.2.2.2⟩, h.memories, h.shows⟩

/-- The fields of the port that `Keeps` does not look at. -/
theorem keeps_port {r s : State} {mark log data} (h : Keeps r s) :
    Keeps r { s with port := ⟨s.port.windowBase, s.port.windowSize, s.port.part, mark, s.port.causeEnables, log, s.port.cause,
      s.port.current, s.port.next, s.port.logCount, s.port.updateCount, s.port.timeBase, data⟩ } :=
  ⟨h.base, h.size, h.enables, h.pending, h.bridges, h.cause, h.time, h.logs, h.updates, h.fits, h.memories, h.shows⟩

/-- The part enters another state; of one that reports, not out of STOPPED. -/
theorem keeps_part {r s : State} {part} (h : Keeps r s) (hp : r.port.part = .stopped ∨ s.port.part ≠ .stopped) :
    Keeps r { s with port := { s.port with part := part } } :=
  ⟨h.base, h.size, h.enables, h.pending, h.bridges, h.cause, h.time, h.logs, h.updates, h.fits, h.memories, fun hr =>
    .inr ((h.shows hr).resolve_left (hp.resolve_left hr.1))⟩

/-- The held sheets change, to sheets that lie beyond the part-written region. -/
theorem keeps_sheets {r s : State} {current next} (h : Keeps r s)
    (hs : SheetsBeyond s → SheetsBeyond { s with port := { s.port with current := current, next := next } }) :
    Keeps r { s with port := { s.port with current := current, next := next } } :=
  ⟨h.base, h.size, h.enables, h.pending, h.bridges, h.cause, h.time, h.logs, h.updates, h.fits, h.memories, fun hr =>
    (h.shows hr).imp id fun h2 => ⟨hs h2.1, h2.2⟩⟩

theorem keeps_foldl {α : Type} {r s : State} {f : State → α → State} {l : List α}
    (hf : ∀ t a, Keeps r t → Keeps r (f t a)) (h : Keeps r s) : Keeps r (l.foldl f s) := by
  induction l generalizing s with
  | nil => exact h
  | cons a rest ih => exact ih (hf s a h)

/-! ### The counts of a lane and of a job -/

theorem mapAll_getElem {α β : Type} {n : Nat} (f : α → β) (v : Vector α n) (i : Fin n) : (mapAll f v)[i] = f v[i] := by
  simp [mapAll]

theorem satInc_le {max n : Nat} (h : n ≤ max) : satInc max n ≤ max := by
  unfold satInc
  split <;> omega

theorem Counter.advance_value (max : Nat) (c : Counter) :
    (c.value ≤ (c.advance max).value ∨ (c.advance max).value = max) ∧ (c.value ≤ max → (c.advance max).value ≤ max) := by
  unfold Counter.advance
  split <;> simp <;> omega

theorem laneFits_reset : LaneFits Lane.reset :=
  ⟨⟨Nat.zero_le _, Nat.zero_le _, Nat.zero_le _, Nat.zero_le _, Nat.zero_le _, Nat.zero_le _⟩,
    ⟨Nat.zero_le _, Nat.zero_le _, Nat.zero_le _⟩, Nat.zero_le _, Nat.zero_le _, Nat.zero_le _⟩

theorem jobFits_reset : JobFits Job.reset := ⟨Nat.zero_le _, Nat.zero_le _, Nat.zero_le _⟩

/-- A lane whose counters, fault run and stray count stand, and whose credits and totals stand or are 0. -/
theorem LaneFits.cleared {l m : Lane} (h : LaneFits l) (hc : m.counters = l.counters) (hf : m.faultRun = l.faultRun)
    (hs : m.stray = l.stray) (hq : m.credits ≤ l.credits) (ht : m.totals = l.totals ∨ m.totals = ⟨0, 0, 0⟩) : LaneFits m := by
  refine ⟨hc ▸ h.1, ?_, Nat.le_trans hq h.2.2.1, hf ▸ h.2.2.2.1, hs ▸ h.2.2.2.2⟩
  rcases ht with e | e <;> rw [e]
  · exact h.2.1
  · exact ⟨Nat.zero_le _, Nat.zero_le _, Nat.zero_le _⟩

/-- A lane whose counters and totals fit, and whose other counts stand. -/
theorem LaneFits.counted {l m : Lane} (h : LaneFits l) (hc : CountersFit m.counters)
    (ht : m.totals.gaps ≤ max16 ∧ m.totals.downshifts ≤ max16 ∧ m.totals.upshifts ≤ max16) (hf : m.faultRun = l.faultRun)
    (hs : m.stray = l.stray) (hq : m.credits = l.credits) : LaneFits m :=
  ⟨hc, ht, hq ▸ h.2.2.1, hf ▸ h.2.2.2.1, hs ▸ h.2.2.2.2⟩

theorem keeps_State_setLane {r₀ s : State} (n : LaneNo) (l : Lane) (hk : Keeps r₀ s)
    (hl : LaneFits (s.lane n) → LaneFits l) : Keeps r₀ (State.setLane s n l) := by
  refine keeps_lanes hk fun hf m => ?_
  by_cases h : m = n
  · subst h
    simpa using hl (hf m)
  · have h2 := hf m
    rw [← State.lane_setLane_ne s n m l h] at h2
    exact h2

theorem keeps_State_updLane {r₀ s : State} (n : LaneNo) (f : Lane → Lane) (hk : Keeps r₀ s)
    (hf : ∀ l, LaneFits l → LaneFits (f l)) : Keeps r₀ (State.updLane s n f) :=
  keeps_State_setLane n _ hk (hf _)

theorem keeps_State_setLink {r₀ s : State} (n : LaneNo) (l : Link) (hk : Keeps r₀ s) : Keeps r₀ (State.setLink s n l) := by
  unfold State.setLink
  try dsimp only
  iterate 60 try (first | with_reducible assumption | split | with_reducible apply keeps_with | with_reducible apply keeps_port)

theorem keeps_State_setDisc {r₀ s : State} (i : DiscNo) (r : Option DiscRecord) (hk : Keeps r₀ s) : Keeps r₀ (State.setDisc s i r) := by
  unfold State.setDisc
  try dsimp only
  iterate 60 try (first | with_reducible assumption | split | with_reducible apply keeps_with | with_reducible apply keeps_port)

theorem keeps_State_setFrame {r₀ s : State} (f : FrameNo) (v : Frame) (hk : Keeps r₀ s) : Keeps r₀ (State.setFrame s f v) := by
  unfold State.setFrame
  try dsimp only
  iterate 60 try (first | with_reducible assumption | split | with_reducible apply keeps_with | with_reducible apply keeps_port)

theorem keeps_State_setUnit {r₀ s : State} (u : UnitNo) (v : CompareUnit) (hk : Keeps r₀ s) : Keeps r₀ (State.setUnit s u v) := by
  unfold State.setUnit
  try dsimp only
  iterate 60 try (first | with_reducible assumption | split | with_reducible apply keeps_with | with_reducible apply keeps_port)

theorem keeps_State_advanceTo {r s : State} {t : Nat} (h : Keeps r s) : Keeps r (s.advanceTo t) := by
  refine ⟨h.base, h.size, h.enables, h.pending, h.bridges, h.cause, ?_, h.logs, h.updates, ?_, h.memories, h.shows⟩
  · have h1 := h.time
    simp only [State.advanceTo] at *
    omega
  · intro hr
    have h2 := h.fits hr
    refine ⟨?_, h2.2⟩
    have h3 := h2.1
    simp only [State.advanceTo] at *
    omega

theorem keeps_State_draw {r₀ s : State}  (hk : Keeps r₀ s) : Keeps r₀ (State.draw s) := by
  unfold State.draw
  try dsimp only
  iterate 60 try (first | with_reducible assumption | split | with_reducible apply keeps_with | with_reducible apply keeps_port)

theorem keeps_State_emit {r₀ s : State} (sig : Signal) (hk : Keeps r₀ s) : Keeps r₀ (State.emit sig s) := by
  unfold State.emit
  try dsimp only
  iterate 60 try (first | with_reducible assumption | split | with_reducible apply keeps_with | with_reducible apply keeps_port)

theorem keeps_setCause {r s : State} (c : Cause) (h : Keeps r s) : Keeps r (setCause c s) := by
  refine ⟨h.base, h.size, h.enables, h.pending, h.bridges, ?_, h.time, h.logs, h.updates, h.fits, h.memories, h.shows⟩
  have h1 := h.cause
  simp only [setCause]
  ext i hi
  have h2 := congrArg (fun x : BitVec 6 => x[i]) h1
  simp only [BitVec.getElem_and, BitVec.getElem_or] at h2 ⊢
  revert h2
  cases r.port.cause[i] <;> cases s.port.cause[i] <;> simp

/-- Bytes that are shown stay shown where others are written beside them. -/
theorem ShowsAt.beside {s : State} {offset a : Nat} {bs new : List Byte} (hm : MemoriesWf s) (h : ShowsAt s offset bs)
    (ho : a + new.length ≤ s.port.windowBase.toNat + offset ∨ s.port.windowBase.toNat + offset + bs.length ≤ a) :
    ShowsAt { s with host := Memory.writeBytes s.host a new } offset bs := by
  intro k hk
  have h2 := h k hk
  rw [← Memory.read_writeBytes_outside s.host a (s.port.windowBase.toNat + offset + k) new hm.2 (by omega)] at h2
  exact h2

theorem keeps_hostWrite {r s : State} (address : Nat) (bs : List Byte) (h : Keeps r s)
    (ho : SheetsBeyond s → address + bs.length ≤ s.port.windowBase.toNat + 0x2000 ∨
      (s.port.windowBase.toNat + 0x2800 ≤ address ∧ address + bs.length ≤ s.port.windowBase.toNat + 0x4000) ∨
      s.port.windowBase.toNat + 0x4240 ≤ address) : Keeps r (hostWrite address bs s) := by
  refine ⟨h.base, h.size, h.enables, h.pending, h.bridges, h.cause, h.time, h.logs, h.updates, h.fits,
    fun hr => ⟨(h.memories hr).1, Memory.wf_writeBytes _ _ _ (h.memories hr).2⟩, fun hr => ?_⟩
  refine (h.shows hr).imp id fun hs => ⟨hs.1, ?_, ?_, ?_⟩
  · intro j
    have := j.isLt
    have := ho hs.1
    refine (hs.2.1 j).beside (h.memories hr.2.1) ?_
    simp only [jobBlock_length]
    omega
  · intro k
    have := k.isLt
    have := ho hs.1
    refine (hs.2.2.1 k).beside (h.memories hr.2.1) ?_
    simp only [entryBytes_length]
    omega
  · have := ho hs.1
    refine hs.2.2.2.beside (h.memories hr.2.1) ?_
    simp only [transportBlock_length]
    omega

theorem keeps_putHeader {r s : State} (h : Keeps r s) : Keeps r (putHeader s) :=
  keeps_hostWrite _ _ h fun _ => by simp only [headerBytes_length]; omega

theorem keeps_countUpdate {r s : State} (h : Keeps r s) : Keeps r (countUpdate s) := by
  refine ⟨h.base, h.size, h.enables, h.pending, h.bridges, h.cause, h.time, h.logs, ?_, ?_, h.memories, h.shows⟩
  · have h1 := h.updates
    have h2 := (Counter.advance_value max32 s.port.updateCount).1
    simp only [countUpdate]
    omega
  · intro hr
    have h1 := h.fits hr
    exact ⟨h1.1, h1.2.1, (Counter.advance_value max32 s.port.updateCount).2 h1.2.2.1, h1.2.2.2⟩

theorem keeps_report {r s : State} (offset : Nat) (bs : List Byte) (h : Keeps r s)
    (ho : offset + bs.length ≤ 0x2000 ∨ (0x2800 ≤ offset ∧ offset + bs.length ≤ 0x4000) ∨ 0x4240 ≤ offset) :
    Keeps r (report offset bs s) := by
  unfold report
  split
  · exact keeps_putHeader (keeps_countUpdate (keeps_hostWrite _ _ h fun _ => by omega))
  · exact h

/-- A report of a region that the window shows: it then shows these bytes there, and what it showed beside them. -/
theorem report_shows {s : State} {offset : Nat} {bs : List Byte} (hm : MemoriesWf s) (ho : 256 ≤ offset) (hp : s.port.part ≠ .stopped) :
    ShowsAt (report offset bs s) offset bs ∧
      ∀ o b, 256 ≤ o → offset + bs.length ≤ o ∨ o + b.length ≤ offset → ShowsAt s o b → ShowsAt (report offset bs s) o b := by
  have hw : windowOpen s = true := by simpa [windowOpen] using hp
  have hm2 := Memory.wf_writeBytes s.host (s.port.windowBase.toNat + offset) bs hm.2
  constructor
  · intro k hk
    rw [report_host hw, report_port_windowBase, Memory.read_writeBytes_outside _ _ _ _ hm2 (by rw [headerBytes_length]; omega),
      Memory.read_writeBytes_inside _ _ _ _ hm.2 hk, List.getD_eq_getElem?_getD, List.getElem?_eq_getElem hk,
      Option.getD_some]
  · intro o b h1 h2 h3 k hk
    rw [report_host hw, report_port_windowBase, Memory.read_writeBytes_outside _ _ _ _ hm2 (by rw [headerBytes_length]; omega),
      Memory.read_writeBytes_outside _ _ _ _ hm.2 (by omega)]
    exact h3 k hk

/-- What the window shows is read from the host's memory and the port. -/
theorem ShowsAt.congr {s t : State} {offset : Nat} {bs : List Byte} (h : ShowsAt s offset bs) (hh : t.host = s.host)
    (hp : t.port = s.port) : ShowsAt t offset bs := by
  intro k hk
  rw [hh, hp]
  exact h k hk

/-- Where the held sheets lie is read from the window's base and the sheets. -/
theorem SheetsBeyond.congr {s t : State} (h : SheetsBeyond s) (hb : t.port.windowBase = s.port.windowBase)
    (hc : t.port.current = s.port.current) (hn : t.port.next = s.port.next) : SheetsBeyond t := by
  intro a ha
  rw [hb]
  exact h a (by rwa [hc, hn] at ha)

/-- A state whose jobs, map or transport change in one shown region, with the region reported: what `Keeps` asks of it but for what the
window shows, and that the window shows the region's bytes. -/
theorem keeps_shown {r s : State} (jobs : Vector Job 8) (transport : Transport) (offset : Nat) (bs : List Byte) (h : Keeps r s)
    (hj : (∀ j : SlotNo, JobFits (s.job j)) → ∀ j : SlotNo, JobFits jobs[j])
    (hs : ∀ t : State, t.jobs = jobs → t.transport = transport → ShowsAt t offset bs →
      (∀ o b, 256 ≤ o → offset + bs.length ≤ o ∨ o + b.length ≤ offset → ShowsAt s o b → ShowsAt t o b) →
      WindowShows s → WindowShows t) (ho : 256 ≤ offset) :
    Keeps r (report offset bs { s with jobs := jobs, transport := transport }) := by
  have hfit : CountsFit r → CountsFit { s with jobs := jobs, transport := transport } := fun hr =>
    have hf := h.fits hr
    ⟨hf.1, hf.2.1, hf.2.2.1, hf.2.2.2.1, hj hf.2.2.2.2⟩
  by_cases hp : s.port.part = .stopped
  · rw [report_closed (s := { s with jobs := jobs, transport := transport }) hp]
    exact ⟨h.base, h.size, h.enables, h.pending, h.bridges, h.cause, h.time, h.logs, h.updates, hfit, h.memories, fun _ => .inl hp⟩
  · have hw : windowOpen { s with jobs := jobs, transport := transport } = true := by simpa [windowOpen] using hp
    have hu := (Counter.advance_value max32 s.port.updateCount)
    have hsh : Reporting r → SheetsBeyond s ∧ WindowShows s := fun hr => (h.shows hr).resolve_left hp
    have hfinal : Reporting r → WindowShows (report offset bs { s with jobs := jobs, transport := transport }) := fun hr => by
      have hrs := report_shows (s := { s with jobs := jobs, transport := transport }) (offset := offset) (bs := bs) (h.memories hr.2.1) ho hp
      exact hs _ (report_jobs _ _ _) (report_transport _ _ _) hrs.1 (fun o b h1 h2 h3 => hrs.2 o b h1 h2 (h3.congr rfl rfl)) (hsh hr).2
    have ht := report_open (o := offset) (bs := bs) hw
    generalize report offset bs { s with jobs := jobs, transport := transport } = t at hfinal ht ⊢
    subst ht
    refine ⟨h.base, h.size, h.enables, h.pending, h.bridges, h.cause, h.time, h.logs, ?_, ?_, ?_, ?_⟩
    · have h1 := h.updates
      dsimp only
      omega
    · intro hr
      have h1 := hfit hr
      exact ⟨h1.1, h1.2.1, hu.2 h1.2.2.1, h1.2.2.2⟩
    · intro hr
      refine ⟨(h.memories hr).1, ?_⟩
      dsimp only
      exact Memory.wf_writeBytes _ _ _ (Memory.wf_writeBytes _ _ _ (h.memories hr).2)
    · exact fun hr => .inr ⟨(hsh hr).1.congr rfl rfl rfl, hfinal hr⟩

/-- A job context replaced, with its block written. -/
theorem keeps_jobWritten {r s : State} (j : SlotNo) (v : Job) (h : Keeps r s) (hv : JobFits (s.job j) → JobFits v) :
    Keeps r (report (0x2000 + 256 * j.val) (jobBlock v) (s.setJob j v)) := by
  refine keeps_shown (s.jobs.set j.val v j.isLt) s.transport _ _ h (fun hf i => ?_) (fun t hj ht h1 h2 hs => ?_) (by omega)
  · by_cases hi : i = j
    · subst hi
      simpa using hv (hf i)
    · have h2 := hf i
      rw [← State.job_setJob_ne s j i v hi] at h2
      exact h2
  · have hj2 : ∀ i, t.job i = (s.setJob j v).job i := fun i => by simp only [State.job, hj, State.setJob]
    refine ⟨fun i => ?_, fun k => ?_, ?_⟩
    · rw [hj2]
      by_cases hi : i = j
      · subst hi
        rw [State.job_setJob_self]
        exact h1
      · rw [State.job_setJob_ne _ _ _ _ hi]
        have : i.val ≠ j.val := fun e => hi (Fin.ext e)
        refine h2 _ _ (by omega) ?_ (hs.1 i)
        simp only [jobBlock_length]
        omega
    · have := j.isLt
      have := k.isLt
      rw [show t.entry k = s.entry k by simp only [State.entry, ht]]
      refine h2 _ _ (by omega) ?_ (hs.2.1 k)
      simp only [jobBlock_length, entryBytes_length]
      omega
    · have := j.isLt
      rw [ht]
      refine h2 _ _ (by omega) ?_ hs.2.2
      simp only [jobBlock_length, transportBlock_length]
      omega

/-- A job context replaced by one that its block shows alike. -/
theorem keeps_jobAlike {r s : State} (j : SlotNo) (v : Job) (h : Keeps r s) (hv : JobFits (s.job j) → JobFits v)
    (hb : jobBlock v = jobBlock (s.job j)) : Keeps r (s.setJob j v) := by
  refine ⟨h.base, h.size, h.enables, h.pending, h.bridges, h.cause, h.time, h.logs, h.updates, fun hr => ?_, h.memories, fun hr =>
    (h.shows hr).imp id fun hs => ⟨hs.1, fun i => ?_, hs.2.2⟩⟩
  · have hf := h.fits hr
    refine ⟨hf.1, hf.2.1, hf.2.2.1, hf.2.2.2.1, fun i => ?_⟩
    by_cases hi : i = j
    · subst hi
      simpa using hv (hf.2.2.2.2 i)
    · rw [State.job_setJob_ne _ _ _ _ hi]
      exact hf.2.2.2.2 i
  · by_cases hi : i = j
    · subst hi
      rw [State.job_setJob_self, hb]
      exact hs.2.1 i
    · rw [State.job_setJob_ne _ _ _ _ hi]
      exact hs.2.1 i

/-- A station's entry replaced, with its bytes written. -/
theorem keeps_entryWritten {r s : State} (k : StationNo) (e : StationEntry) (h : Keeps r s) :
    Keeps r (report (0x4000 + 16 * k.val) (entryBytes e) (s.setEntry k e)) := by
  refine keeps_shown s.jobs { s.transport with map := s.transport.map.set k.val e k.isLt } _ _ h (fun hf => hf)
    (fun t hj ht h1 h2 hs => ?_) (by omega)
  have he : ∀ i, t.entry i = (s.setEntry k e).entry i := fun i => by simp only [State.entry, ht, State.setEntry]
  refine ⟨fun i => ?_, fun i => ?_, ?_⟩
  · have := i.isLt
    have := k.isLt
    rw [show t.job i = s.job i by simp only [State.job, hj]]
    refine h2 _ _ (by omega) ?_ (hs.1 i)
    simp only [jobBlock_length, entryBytes_length]
    omega
  · rw [he]
    by_cases hi : i = k
    · subst hi
      rw [State.entry_setEntry_self]
      exact h1
    · rw [State.entry_setEntry_ne _ _ _ _ hi]
      have : i.val ≠ k.val := fun e => hi (Fin.ext e)
      refine h2 _ _ (by omega) ?_ (hs.2.1 i)
      simp only [entryBytes_length]
      omega
  · have := k.isLt
    rw [ht]
    refine h2 _ _ (by omega) ?_ hs.2.2
    simp only [entryBytes_length, transportBlock_length]
    omega

theorem keeps_logCount {r s : State} (h : Keeps r s) :
    Keeps r { s with port := { s.port with logCount := s.port.logCount.advance max32 } } := by
  refine ⟨h.base, h.size, h.enables, h.pending, h.bridges, h.cause, h.time, ?_, h.updates, ?_, h.memories, h.shows⟩
  · have h1 := h.logs
    have h2 := (Counter.advance_value max32 s.port.logCount).1
    dsimp only
    omega
  · intro hr
    have h1 := h.fits hr
    exact ⟨h1.1, (Counter.advance_value max32 s.port.logCount).2 h1.2.1, h1.2.2⟩

theorem keeps_logEntry {r s : State} (kind : LogKind) (subject : Nat) (detail : List Byte) (h : Keeps r s) :
    Keeps r (logEntry kind subject detail s) := by
  unfold logEntry
  split
  · have h1 := keeps_putHeader (keeps_countUpdate (keeps_logCount (keeps_hostWrite
      (s.port.windowBase.toNat + (logRegion + 32 * (s.port.logCount.value % 128)))
      (logBytes s.port.logCount.value s.now kind subject detail) h fun _ => by simp only [logRegion]; omega)))
    dsimp only
    split
    · exact keeps_setCause _ h1
    · exact h1
  · exact h

theorem keeps_setPart {r s : State} (p : PartState) (h : Keeps r s) (hp : r.port.part = .stopped ∨ s.port.part ≠ .stopped) :
    Keeps r (setPart p s) := keeps_putHeader (keeps_part h hp)

theorem keeps_sheetWrite {r s : State} (address : Nat) (bs : List Byte) (h : Keeps r s)
    (ho : SheetsBeyond s → s.port.windowBase.toNat + 0x18000 ≤ address) : Keeps r (sheetWrite address bs s) := by
  unfold sheetWrite State.draw
  split
  · exact keeps_with (keeps_hostWrite _ _ h fun hs => by have := ho hs; omega)
  · exact keeps_with h

/-- A sheet that is held lies beyond the part-written region. -/
theorem SheetsBeyond.current {s : State} {c : HeldSheet} (h : SheetsBeyond s) (hc : s.port.current = some c) :
    s.port.windowBase.toNat + 0x18000 ≤ c.address.toNat := h _ (.inl ⟨c, hc, rfl⟩)

theorem keeps_returnSheet {r s : State} (result : Option SheetResult) (h : Keeps r s) : Keeps r (returnSheet result s) := by
  unfold returnSheet
  split
  · exact h
  · rename_i c hc
    dsimp only
    refine keeps_sheets (keeps_setCause _ (keeps_sheetWrite _ _ ?_ fun hs => ?_)) fun hs a ha => ?_
    · split
      · exact keeps_sheetWrite _ _ h fun hs => Nat.le_trans (hs.current hc) (Nat.le_add_right _ _)
      · exact h
    · refine hs.current ?_
      split
      · rw [sheetWrite_port]; exact hc
      · exact hc
    · rcases ha with ⟨x, hx, rfl⟩ | ha
      · obtain ⟨y, hy, rfl⟩ := Option.map_eq_some_iff.mp hx
        exact hs _ (.inr hy)
      · cases ha

theorem keeps_takeSheet {r s : State} (entries : List (List Byte)) (h : Keeps r s) : Keeps r (takeSheet entries s) := by
  unfold takeSheet
  split
  · exact h
  · rename_i c hc
    dsimp only
    have h1 := keeps_sheetWrite (c.address.toNat + 2) (byte SheetResult.ok.code) h
      fun hs => Nat.le_trans (hs.current hc) (Nat.le_add_right _ _)
    have h2 := keeps_sheetWrite c.address.toNat (byte sheetTaken) h1 fun hs => hs.current (by rw [sheetWrite_port]; exact hc)
    refine keeps_sheets h2 fun hs a ha => ?_
    rcases ha with ⟨x, hx, rfl⟩ | ha
    · cases hx
      exact hs _ (.inl ⟨c, by rw [sheetWrite_port, sheetWrite_port]; exact hc, rfl⟩)
    · exact hs _ (.inr ha)

theorem keeps_processSheet {r₀ s : State} (header entries : HostRead) (hk : Keeps r₀ s) : Keeps r₀ (processSheet header entries s) := by
  unfold processSheet
  try dsimp only
  iterate 60 try (first | with_reducible assumption | with_reducible apply keeps_returnSheet | with_reducible apply keeps_takeSheet | split | with_reducible apply keeps_with | with_reducible apply keeps_port)

theorem keeps_finishEntry {r s : State} (code : ResultCode) (data : List Byte) (h : Keeps r s) :
    Keeps r (finishEntry code data s) := by
  unfold finishEntry
  split
  · rename_i a es i hc
    have h1 := keeps_sheetWrite (entryAddress a i + 1) (byte code.code) h
      fun hs => Nat.le_trans (hs.current hc) (by simp only [entryAddress]; omega)
    have h2 := keeps_sheetWrite (entryAddress a i + 0x40) (fitBytes 64 data) h1
      fun hs => Nat.le_trans (hs.current (c := ⟨a, some es, i⟩) (by rw [sheetWrite_port]; exact hc)) (by simp only [entryAddress]; omega)
    have h3 := keeps_sheets (current := some ⟨a, some es, i + 1⟩)
      (next := (sheetWrite (entryAddress a i + 0x40) (fitBytes 64 data) (sheetWrite (entryAddress a i + 1) (byte code.code) s)).port.next)
      h2 fun hs b hb => by
        rcases hb with ⟨x, hx, rfl⟩ | hb
        · cases hx
          exact hs _ (.inl ⟨⟨a, some es, i⟩, by rw [sheetWrite_port, sheetWrite_port]; exact hc, rfl⟩)
        · exact hs _ (.inr hb)
    dsimp only
    split
    · exact h3
    · exact keeps_returnSheet _ h3
  · exact h

theorem keeps_handSheet {r s : State} (a : BitVec 64) (h : Keeps r s) : Keeps r (handSheet a s) := by
  unfold handSheet
  split
  · exact keeps_setCause _ h
  · split
    · exact keeps_setCause _ h
    · rename_i hw
      have hb : s.port.windowBase.toNat + 0x18000 ≤ a.toNat := by
        have h1 : windowCheck s.port a.toNat sheetSize = true := by
          exact Decidable.not_not.mp fun h2 => hw (.inr h2)
        simp only [windowCheck, Bool.and_eq_true] at h1
        have h2 := of_decide_eq_true h1.1
        simpa only [partRegionEnd] using h2
      split
      · refine keeps_sheets (next := s.port.next) h fun hs b hb2 => ?_
        rcases hb2 with ⟨x, hx, rfl⟩ | hb2
        · cases hx
          exact hb
        · exact hs _ (.inr hb2)
      · rename_i c hc
        refine keeps_sheets (current := s.port.current) h fun hs b hb2 => ?_
        rcases hb2 with ⟨x, hx, rfl⟩ | hb2
        · exact hs _ (.inl ⟨x, hx, rfl⟩)
        · cases hb2
          exact hb

theorem keeps_startFill {r₀ s : State} (r : FetchReq) (slot : Fin 8) (f : FrameNo)
    (hk : Keeps r₀ s) : Keeps r₀ (startFill r slot f s) := by
  unfold startFill
  try dsimp only
  iterate 60 try (first | with_reducible assumption | with_reducible apply keeps_State_setFrame | with_reducible apply keeps_State_updLane | ((with_reducible intro _ h); first | exact h | exact h.cleared rfl rfl rfl (Nat.le_refl _) (.inl rfl) | exact h.cleared rfl rfl rfl (Nat.zero_le _) (.inl rfl) | exact h.cleared rfl rfl rfl (Nat.zero_le _) (.inr rfl)) | (apply keeps_foldl; intro t a ht; try dsimp only) | split | with_reducible apply keeps_with | with_reducible apply keeps_port)

theorem keeps_feStart {r₀ s : State}  (hk : Keeps r₀ s) : Keeps r₀ (feStart s) := by
  unfold feStart
  try dsimp only
  iterate 60 try (first | with_reducible assumption | with_reducible apply keeps_startFill | split | with_reducible apply keeps_with | with_reducible apply keeps_port)

theorem keeps_addPin {r₀ s : State} (n : LaneNo) (p : LanePin) (hk : Keeps r₀ s) : Keeps r₀ (addPin n p s) := by
  unfold addPin
  try dsimp only
  iterate 60 try (first | with_reducible assumption | with_reducible apply keeps_State_updLane | ((with_reducible intro _ h); first | exact h | exact h.cleared rfl rfl rfl (Nat.le_refl _) (.inl rfl) | exact h.cleared rfl rfl rfl (Nat.zero_le _) (.inl rfl) | exact h.cleared rfl rfl rfl (Nat.zero_le _) (.inr rfl)) | split | with_reducible apply keeps_with | with_reducible apply keeps_port)

theorem keeps_queueRequest {r₀ s : State} (j : SlotNo) (page : Nat) (n : LaneNo)
    (hk : Keeps r₀ s) : Keeps r₀ (queueRequest j page n s) := by
  unfold queueRequest
  try dsimp only
  iterate 60 try (first | with_reducible assumption | with_reducible apply keeps_feStart | split | with_reducible apply keeps_with | with_reducible apply keeps_port)

theorem keeps_pinPage {r₀ s : State} (n : LaneNo) (kind : PinKind) (j : SlotNo) (page : Nat)
    (hk : Keeps r₀ s) : Keeps r₀ (pinPage n kind j page s) := by
  unfold pinPage
  try dsimp only
  iterate 60 try (first | with_reducible assumption | with_reducible apply keeps_addPin | with_reducible apply keeps_State_setFrame | with_reducible apply keeps_queueRequest | split | with_reducible apply keeps_with | with_reducible apply keeps_port)

theorem keeps_dropPin {r₀ s : State} (n : LaneNo) (p : LanePin) (hk : Keeps r₀ s) : Keeps r₀ (dropPin n p s) := by
  unfold dropPin
  try dsimp only
  iterate 60 try (first | with_reducible assumption | with_reducible apply keeps_State_updLane | with_reducible apply keeps_State_setFrame | ((with_reducible intro _ h); first | exact h | exact h.cleared rfl rfl rfl (Nat.le_refl _) (.inl rfl) | exact h.cleared rfl rfl rfl (Nat.zero_le _) (.inl rfl) | exact h.cleared rfl rfl rfl (Nat.zero_le _) (.inr rfl)) | split | with_reducible apply keeps_with | with_reducible apply keeps_port)

theorem keeps_unpinKind {r₀ s : State} (n : LaneNo) (kind : PinKind) (hk : Keeps r₀ s) : Keeps r₀ (unpinKind n kind s) := by
  unfold unpinKind
  try dsimp only
  iterate 60 try (first | with_reducible assumption | with_reducible apply keeps_dropPin | (apply keeps_foldl; intro t a ht; try dsimp only) | split)

theorem keeps_unpinWrite {r₀ s : State} (n : LaneNo) (page : Nat) (hk : Keeps r₀ s) : Keeps r₀ (unpinWrite n page s) := by
  unfold unpinWrite
  try dsimp only
  iterate 60 try (first | with_reducible assumption | with_reducible apply keeps_dropPin | (apply keeps_foldl; intro t a ht; try dsimp only) | split)

theorem keeps_releaseFrames {r₀ s : State} (j : SlotNo) (hk : Keeps r₀ s) : Keeps r₀ (releaseFrames j s) := by
  unfold releaseFrames
  try dsimp only
  iterate 60 try (first | with_reducible assumption | split | with_reducible apply keeps_with | with_reducible apply keeps_port)

theorem keeps_freeFailed {r₀ s : State} (j : SlotNo) (hk : Keeps r₀ s) : Keeps r₀ (freeFailed j s) := by
  unfold freeFailed
  try dsimp only
  iterate 60 try (first | with_reducible assumption | split | with_reducible apply keeps_with | with_reducible apply keeps_port)

theorem keeps_clearFill {r₀ s : State} (slot : Fin 8) (hk : Keeps r₀ s) : Keeps r₀ (clearFill slot s) := by
  unfold clearFill
  try dsimp only
  iterate 60 try (first | with_reducible assumption | split | with_reducible apply keeps_with | with_reducible apply keeps_port)

theorem keeps_setFill {r₀ s : State} (slot : Fin 8) (f : Fill) (hk : Keeps r₀ s) : Keeps r₀ (setFill slot f s) := by
  unfold setFill
  try dsimp only
  iterate 60 try (first | with_reducible assumption | split | with_reducible apply keeps_with | with_reducible apply keeps_port)

theorem keeps_looseFrame {r₀ s : State} (f : FrameNo) (hk : Keeps r₀ s) : Keeps r₀ (looseFrame f s) := by
  refine keeps_lanes hk fun hf n => ?_
  rw [mapAll_getElem]
  exact hf n

theorem keeps_writeEntry {r s : State} (k : StationNo) (e : StationEntry) (h : Keeps r s) :
    Keeps r (writeEntry k (s.setEntry k e)) := by
  unfold writeEntry
  rw [State.entry_setEntry_self]
  exact keeps_entryWritten _ _ h

theorem keeps_changeEntry {r s : State} (k : StationNo) (f : StationEntry → StationEntry) (h : Keeps r s) :
    Keeps r (changeEntry k f s) := by
  unfold changeEntry
  split
  · exact h
  · exact keeps_writeEntry _ _ h

theorem keeps_setTray {r₀ s : State} (k : StationNo) (o : Occupancy) (i : Option DiscNo)
    (hk : Keeps r₀ s) : Keeps r₀ (setTray k o i s) := by
  unfold setTray
  try dsimp only
  iterate 60 try (first | with_reducible assumption | with_reducible apply keeps_changeEntry | split | with_reducible apply keeps_with | with_reducible apply keeps_port)

theorem keeps_setClaim {r₀ s : State} (k : StationNo) (b : Bool) (hk : Keeps r₀ s) : Keeps r₀ (setClaim k b s) := by
  unfold setClaim
  try dsimp only
  iterate 60 try (first | with_reducible assumption | with_reducible apply keeps_changeEntry | split | with_reducible apply keeps_with | with_reducible apply keeps_port)

theorem keeps_changeSpindle {r₀ s : State} (k : StationNo) (f : StationEntry → StationEntry)
    (hk : Keeps r₀ s) : Keeps r₀ (changeSpindle k f s) := by
  unfold changeSpindle
  try dsimp only
  iterate 60 try (first | with_reducible assumption | with_reducible apply keeps_changeEntry | split | with_reducible apply keeps_with | with_reducible apply keeps_port)

theorem keeps_changeArm {r s : State} (f : Transport → Transport) (h : Keeps r s)
    (hm : (f s.transport).map = s.transport.map) : Keeps r (changeArm f s) := by
  unfold changeArm
  dsimp only
  split
  · rename_i hb
    exact keeps_unseen h hb hm
  · refine keeps_shown s.jobs (f s.transport) _ _ h (fun hf => hf) (fun t hj ht h1 h2 hs => ?_) (by decide)
    refine ⟨fun i => ?_, fun k => ?_, ?_⟩
    · have := i.isLt
      rw [show t.job i = s.job i by simp only [State.job, hj]]
      refine h2 _ _ (by omega) ?_ (hs.1 i)
      simp only [jobBlock_length, transportBlock_length, transportRegion]
      omega
    · have := k.isLt
      rw [show t.entry k = s.entry k by simp only [State.entry, ht, hm]]
      refine h2 _ _ (by omega) ?_ (hs.2.1 k)
      simp only [entryBytes_length, transportBlock_length, transportRegion]
      omega
    · rw [ht]
      exact h1

theorem keeps_putTask {r₀ s : State} (t : Task) (hk : Keeps r₀ s) : Keeps r₀ (putTask t s) := by
  unfold putTask
  try dsimp only
  iterate 60 try (first | with_reducible assumption | with_reducible refine keeps_changeArm _ ?_ rfl | split | with_reducible apply keeps_with | with_reducible apply keeps_port)

theorem keeps_queueTask {r₀ s : State} (kind : TaskKind) (r : RequesterNo) (source dest : StationNo)
    (hk : Keeps r₀ s) : Keeps r₀ (queueTask kind r source dest s) := by
  unfold queueTask
  try dsimp only
  iterate 60 try (first | with_reducible assumption | with_reducible apply keeps_putTask | with_reducible apply keeps_State_emit | split | with_reducible apply keeps_with | with_reducible apply keeps_port | with_reducible refine keeps_unseen ?_ (by with_unfolding_all rfl) (by with_unfolding_all rfl))

theorem keeps_withdrawTask {r₀ s : State} (r : RequesterNo) (hk : Keeps r₀ s) : Keeps r₀ (withdrawTask r s) := by
  unfold withdrawTask
  try dsimp only
  iterate 60 try (first | with_reducible assumption | with_reducible refine keeps_changeArm _ ?_ rfl | with_reducible apply keeps_State_emit | split | with_reducible apply keeps_with | with_reducible apply keeps_port)

theorem keeps_writeRecord {r s : State} (i : DiscNo) (h : Keeps r s) : Keeps r (writeRecord i s) :=
  keeps_report _ _ h (by simp only [rosterRegion]; omega)

theorem keeps_updDisc {r₀ s : State} (i : DiscNo) (f : DiscRecord → DiscRecord) (hk : Keeps r₀ s) : Keeps r₀ (updDisc i f s) := by
  unfold updDisc
  try dsimp only
  iterate 60 try (first | with_reducible assumption | with_reducible apply keeps_writeRecord | with_reducible apply keeps_State_setDisc | split | with_reducible apply keeps_with | with_reducible apply keeps_port)

theorem keeps_allocRecord {r₀ s : State} (i : DiscNo) (j : SlotNo) (n : LaneNo) (hk : Keeps r₀ s) : Keeps r₀ (allocRecord i j n s) := by
  unfold allocRecord
  try dsimp only
  iterate 60 try (first | with_reducible assumption | with_reducible apply keeps_writeRecord | with_reducible apply keeps_State_setDisc | with_reducible apply keeps_State_emit | split)

theorem keeps_freeRecord {r₀ s : State} (i : DiscNo) (hk : Keeps r₀ s) : Keeps r₀ (freeRecord i s) := by
  unfold freeRecord
  try dsimp only
  iterate 60 try (first | with_reducible assumption | with_reducible apply keeps_writeRecord | with_reducible apply keeps_State_setDisc | with_reducible apply keeps_State_emit | split)

end Sys2Proof.Machine
end

