-- ==== Sys2Proof/Laws/KeepsLane.lean ====
section
/-! SUPPORT. What the part keeps (`Keeps`): the same for jobs, lanes, verification and fills. -/

namespace Sys2Proof.Machine

theorem keeps_writeLane {r s : State} (n : LaneNo) (h : Keeps r s) : Keeps r (writeLane n s) := by
  have := n.isLt
  exact keeps_report _ _ h (by simp only [laneRegion, laneBlock_length]; omega)

theorem keeps_enterLane {r₀ s : State} (n : LaneNo) (st : LaneState) (hk : Keeps r₀ s) : Keeps r₀ (enterLane n st s) := by
  unfold enterLane
  try dsimp only
  iterate 60 try (first | with_reducible assumption | with_reducible apply keeps_writeLane | with_reducible apply keeps_State_updLane | with_reducible apply keeps_State_emit | ((with_reducible intro _ h); first | exact h | exact h.cleared rfl rfl rfl (Nat.le_refl _) (.inl rfl) | exact h.cleared rfl rfl rfl (Nat.zero_le _) (.inl rfl) | exact h.cleared rfl rfl rfl (Nat.zero_le _) (.inr rfl)) | split)

theorem keeps_strayMessage {r₀ s : State} (n : LaneNo) (hk : Keeps r₀ s) : Keeps r₀ (strayMessage n s) := by
  unfold strayMessage
  try dsimp only
  iterate 60 try (first | with_reducible assumption | with_reducible apply keeps_writeLane | with_reducible apply keeps_State_updLane | ((with_reducible intro _ h); first | exact ⟨h.1, h.2.1, h.2.2.1, h.2.2.2.1, satInc_le h.2.2.2.2⟩ | exact h | exact h.cleared rfl rfl rfl (Nat.le_refl _) (.inl rfl) | exact h.cleared rfl rfl rfl (Nat.zero_le _) (.inl rfl) | exact h.cleared rfl rfl rfl (Nat.zero_le _) (.inr rfl)) | split | with_reducible apply keeps_with | with_reducible apply keeps_port)

theorem keeps_sendMsg {r₀ s : State} (n : LaneNo) (m : LaneMsg) (hk : Keeps r₀ s) : Keeps r₀ (sendMsg n m s) := by
  unfold sendMsg
  try dsimp only
  iterate 60 try (first | with_reducible assumption | with_reducible apply keeps_State_setLink | split | with_reducible apply keeps_with | with_reducible apply keeps_port)

theorem keeps_setWaits {r₀ s : State} (n : LaneNo) (f : Waits → Waits) (hk : Keeps r₀ s) : Keeps r₀ (setWaits n f s) := by
  unfold setWaits
  try dsimp only
  iterate 60 try (first | with_reducible assumption | with_reducible apply keeps_State_updLane | ((with_reducible intro _ h); first | exact h | exact h.cleared rfl rfl rfl (Nat.le_refl _) (.inl rfl) | exact h.cleared rfl rfl rfl (Nat.zero_le _) (.inl rfl) | exact h.cleared rfl rfl rfl (Nat.zero_le _) (.inr rfl)) | split | with_reducible apply keeps_with | with_reducible apply keeps_port)

theorem keeps_sendTray {r₀ s : State} (n : LaneNo) (c : TrayCmd) (p : TrayPurpose)
    (hk : Keeps r₀ s) : Keeps r₀ (sendTray n c p s) := by
  unfold sendTray
  try dsimp only
  iterate 60 try (first | with_reducible assumption | with_reducible apply keeps_setWaits | with_reducible apply keeps_sendMsg | split | with_reducible apply keeps_with | with_reducible apply keeps_port)

theorem keeps_endTrayWait {r₀ s : State} (n : LaneNo) (hk : Keeps r₀ s) : Keeps r₀ (endTrayWait n s) := by
  unfold endTrayWait
  try dsimp only
  iterate 60 try (first | with_reducible assumption | with_reducible apply keeps_setWaits | split | with_reducible apply keeps_with | with_reducible apply keeps_port)

theorem keeps_logLaneFault {r₀ s : State} (n : LaneNo) (cause : LaneCause) (c : Option TrayCmd) (held : Option DiscRef)
    (hk : Keeps r₀ s) : Keeps r₀ (logLaneFault n cause c held s) := by
  unfold logLaneFault
  try dsimp only
  iterate 60 try (first | with_reducible assumption | with_reducible apply keeps_logEntry | split | with_reducible apply keeps_with | with_reducible apply keeps_port)

theorem keeps_faultHeld {r₀ s : State} (n : LaneNo) (cause : LaneCause) (c : Option TrayCmd) (held : Option DiscRef)
    (hk : Keeps r₀ s) : Keeps r₀ (faultHeld n cause c held s) := by
  unfold faultHeld
  try dsimp only
  iterate 60 try (first | with_reducible assumption | with_reducible apply keeps_logLaneFault | with_reducible apply keeps_enterLane | with_reducible apply keeps_State_updLane | with_reducible apply keeps_State_emit | ((with_reducible intro _ h); first | exact h | exact h.cleared rfl rfl rfl (Nat.le_refl _) (.inl rfl) | exact h.cleared rfl rfl rfl (Nat.zero_le _) (.inl rfl) | exact h.cleared rfl rfl rfl (Nat.zero_le _) (.inr rfl)) | split | with_reducible apply keeps_with | with_reducible apply keeps_port)

theorem keeps_faultLane {r₀ s : State} (n : LaneNo) (cause : LaneCause) (c : Option TrayCmd)
    (hk : Keeps r₀ s) : Keeps r₀ (faultLane n cause c s) := by
  unfold faultLane
  try dsimp only
  iterate 60 try (first | with_reducible assumption | with_reducible apply keeps_faultHeld | split)

theorem keeps_clearDisc {r₀ s : State} (n : LaneNo) (hk : Keeps r₀ s) : Keeps r₀ (clearDisc n s) := by
  unfold clearDisc
  try dsimp only
  iterate 60 try (first | with_reducible assumption | with_reducible apply keeps_State_updLane | ((with_reducible intro _ h); first | exact h | exact h.cleared rfl rfl rfl (Nat.le_refl _) (.inl rfl) | exact h.cleared rfl rfl rfl (Nat.zero_le _) (.inl rfl) | exact h.cleared rfl rfl rfl (Nat.zero_le _) (.inr rfl)) | split | with_reducible apply keeps_with | with_reducible apply keeps_port)

theorem keeps_faultEmpty {r₀ s : State} (n : LaneNo) (cause : LaneCause) (c : Option TrayCmd)
    (hk : Keeps r₀ s) : Keeps r₀ (faultEmpty n cause c s) := by
  unfold faultEmpty
  try dsimp only
  iterate 60 try (first | with_reducible assumption | with_reducible apply keeps_faultHeld | with_reducible apply keeps_clearDisc | split)

theorem keeps_beginRecovery {r₀ s : State} (n : LaneNo) (hk : Keeps r₀ s) : Keeps r₀ (beginRecovery n s) := by
  unfold beginRecovery
  try dsimp only
  iterate 60 try (first | with_reducible assumption | with_reducible apply keeps_sendTray | with_reducible apply keeps_State_updLane | ((with_reducible intro _ h); first | exact h | exact h.cleared rfl rfl rfl (Nat.le_refl _) (.inl rfl) | exact h.cleared rfl rfl rfl (Nat.zero_le _) (.inl rfl) | exact h.cleared rfl rfl rfl (Nat.zero_le _) (.inr rfl)) | split | with_reducible apply keeps_with | with_reducible apply keeps_port)

theorem keeps_laneRest {r₀ s : State} (n : LaneNo) (hk : Keeps r₀ s) : Keeps r₀ (laneRest n s) := by
  unfold laneRest
  try dsimp only
  iterate 60 try (first | with_reducible assumption | with_reducible apply keeps_State_updLane | with_reducible apply keeps_enterLane | with_reducible apply keeps_State_emit | with_reducible apply keeps_faultLane | ((with_reducible intro _ h); first | exact h | exact h.cleared rfl rfl rfl (Nat.le_refl _) (.inl rfl) | exact h.cleared rfl rfl rfl (Nat.zero_le _) (.inl rfl) | exact h.cleared rfl rfl rfl (Nat.zero_le _) (.inr rfl)) | split | with_reducible apply keeps_with | with_reducible apply keeps_port)

theorem keeps_endReservation {r₀ s : State} (n : LaneNo) (hk : Keeps r₀ s) : Keeps r₀ (endReservation n s) := by
  unfold endReservation
  try dsimp only
  iterate 60 try (first | with_reducible assumption | with_reducible apply keeps_faultLane | with_reducible apply keeps_State_updLane | with_reducible apply keeps_beginRecovery | with_reducible apply keeps_laneRest | ((with_reducible intro _ h); first | exact h | exact h.cleared rfl rfl rfl (Nat.le_refl _) (.inl rfl) | exact h.cleared rfl rfl rfl (Nat.zero_le _) (.inl rfl) | exact h.cleared rfl rfl rfl (Nat.zero_le _) (.inr rfl)) | split)

theorem keeps_endWithdrawn {r₀ s : State} (n : LaneNo) (thenFaulted : Bool)
    (hk : Keeps r₀ s) : Keeps r₀ (endWithdrawn n thenFaulted s) := by
  unfold endWithdrawn
  try dsimp only
  iterate 60 try (first | with_reducible assumption | with_reducible apply keeps_enterLane | with_reducible apply keeps_State_updLane | with_reducible apply keeps_State_emit | with_reducible apply keeps_laneRest | ((with_reducible intro _ h); first | exact h | exact h.cleared rfl rfl rfl (Nat.le_refl _) (.inl rfl) | exact h.cleared rfl rfl rfl (Nat.zero_le _) (.inl rfl) | exact h.cleared rfl rfl rfl (Nat.zero_le _) (.inr rfl)) | split)

theorem keeps_laneWithdrawn {r₀ s : State} (n : LaneNo) (i : DiscNo) (thenFaulted : Bool)
    (hk : Keeps r₀ s) : Keeps r₀ (laneWithdrawn n i thenFaulted s) := by
  unfold laneWithdrawn
  try dsimp only
  iterate 60 try (first | with_reducible assumption | with_reducible apply keeps_clearDisc | with_reducible apply keeps_endReservation | with_reducible apply keeps_setWaits | with_reducible apply keeps_sendTray | split | with_reducible apply keeps_with | with_reducible apply keeps_port)

theorem keeps_laneAskOpen {r₀ s : State} (n : LaneNo) (load : Bool) (hk : Keeps r₀ s) : Keeps r₀ (laneAskOpen n load s) := by
  unfold laneAskOpen
  try dsimp only
  iterate 60 try (first | with_reducible assumption | with_reducible apply keeps_enterLane | with_reducible apply keeps_sendTray | split)

theorem keeps_laneToldClose {r₀ s : State} (n : LaneNo) (hk : Keeps r₀ s) : Keeps r₀ (laneToldClose n s) := by
  unfold laneToldClose
  try dsimp only
  iterate 60 try (first | with_reducible assumption | with_reducible apply keeps_sendTray | with_reducible apply keeps_State_updLane | ((with_reducible intro _ h); first | exact h | exact h.cleared rfl rfl rfl (Nat.le_refl _) (.inl rfl) | exact h.cleared rfl rfl rfl (Nat.zero_le _) (.inl rfl) | exact h.cleared rfl rfl rfl (Nat.zero_le _) (.inr rfl)) | split | with_reducible apply keeps_with | with_reducible apply keeps_port)

theorem keeps_requestUnload {r₀ s : State} (n : LaneNo) (hk : Keeps r₀ s) : Keeps r₀ (requestUnload n s) := by
  unfold requestUnload
  try dsimp only
  iterate 60 try (first | with_reducible assumption | with_reducible apply keeps_enterLane | with_reducible apply keeps_queueTask | split)

theorem keeps_writeJob {r s : State} (j : SlotNo) (v : Job) (h : Keeps r s) (hv : JobFits (s.job j) → JobFits v) :
    Keeps r (writeJob j (s.setJob j v)) := by
  unfold writeJob
  rw [State.job_setJob_self]
  exact keeps_jobWritten _ _ h hv

theorem keeps_changeJob {r s : State} (j : SlotNo) (f : Job → Job) (h : Keeps r s)
    (hf : ∀ x, JobFits x → JobFits (f x)) : Keeps r (changeJob j f s) := by
  unfold changeJob
  dsimp only
  split
  · rename_i hb
    exact keeps_jobAlike _ _ h (hf _) hb
  · exact keeps_writeJob _ _ h (hf _)

theorem keeps_testCounts {r₀ s : State} (j : SlotNo) (hk : Keeps r₀ s) : Keeps r₀ (testCounts j s) := by
  unfold testCounts
  try dsimp only
  iterate 60 try (first | with_reducible assumption | with_reducible apply keeps_State_emit | with_reducible apply keeps_changeJob | with_reducible apply keeps_logEntry | with_reducible apply keeps_releaseFrames | ((with_reducible intro _ h); first | exact h | exact ⟨satInc_le h.1, h.2⟩ | exact ⟨satInc_le h.1, satInc_le h.2.1, h.2.2⟩ | exact ⟨h.1, satInc_le h.2.1, h.2.2⟩ | exact ⟨h.1, h.2.1, Nat.zero_le _⟩ | exact ⟨h.1, h.2.1, Nat.min_le_left _ _⟩) | split | with_reducible apply keeps_with | with_reducible apply keeps_port)

theorem keeps_countLaneReject {r₀ s : State} (i : DiscNo) (r : DiscRecord) (hk : Keeps r₀ s) : Keeps r₀ (countLaneReject i r s) := by
  unfold countLaneReject
  try dsimp only
  iterate 60 try (first | with_reducible assumption | with_reducible apply keeps_State_updLane | ((with_reducible intro _ h); first | exact h.counted ⟨h.1.1, h.1.2.1, h.1.2.2.1, h.1.2.2.2.1, h.1.2.2.2.2.1, (Counter.advance_value _ _).2 h.1.2.2.2.2.2⟩ ⟨h.2.1.1, h.2.1.2.1, h.2.1.2.2⟩ rfl rfl rfl | exact h | exact h.cleared rfl rfl rfl (Nat.le_refl _) (.inl rfl) | exact h.cleared rfl rfl rfl (Nat.zero_le _) (.inl rfl) | exact h.cleared rfl rfl rfl (Nat.zero_le _) (.inr rfl)) | split | with_reducible apply keeps_with | with_reducible apply keeps_port)

theorem keeps_decideRejected {r₀ s : State} (i : DiscNo) (why : RejectReason) (code : Nat) (f : DiscRecord → DiscRecord)
    (hk : Keeps r₀ s) : Keeps r₀ (decideRejected i why code f s) := by
  unfold decideRejected
  try dsimp only
  iterate 60 try (first | with_reducible assumption | with_reducible apply keeps_countLaneReject | with_reducible apply keeps_updDisc | with_reducible apply keeps_testCounts | with_reducible apply keeps_logEntry | with_reducible apply keeps_changeJob | ((with_reducible intro _ h); first | exact h | exact ⟨satInc_le h.1, h.2⟩ | exact ⟨satInc_le h.1, satInc_le h.2.1, h.2.2⟩ | exact ⟨h.1, satInc_le h.2.1, h.2.2⟩ | exact ⟨h.1, h.2.1, Nat.zero_le _⟩ | exact ⟨h.1, h.2.1, Nat.min_le_left _ _⟩) | split | with_reducible apply keeps_with | with_reducible apply keeps_port)

theorem keeps_cancelReservation {r₀ s : State} (n : LaneNo) (hk : Keeps r₀ s) : Keeps r₀ (cancelReservation n s) := by
  unfold cancelReservation
  try dsimp only
  iterate 60 try (first | with_reducible assumption | with_reducible apply keeps_testCounts | with_reducible apply keeps_endReservation | with_reducible apply keeps_freeRecord | with_reducible apply keeps_changeJob | ((with_reducible intro _ h); first | exact h | exact ⟨satInc_le h.1, h.2⟩ | exact ⟨satInc_le h.1, satInc_le h.2.1, h.2.2⟩ | exact ⟨h.1, satInc_le h.2.1, h.2.2⟩ | exact ⟨h.1, h.2.1, Nat.zero_le _⟩ | exact ⟨h.1, h.2.1, Nat.min_le_left _ _⟩) | split | with_reducible apply keeps_with | with_reducible apply keeps_port)

theorem keeps_withdrawLoad {r₀ s : State} (n : LaneNo) (hk : Keeps r₀ s) : Keeps r₀ (withdrawLoad n s) := by
  unfold withdrawLoad
  try dsimp only
  iterate 60 try (first | with_reducible assumption | with_reducible apply keeps_cancelReservation | with_reducible apply keeps_withdrawTask | split | with_reducible apply keeps_with | with_reducible apply keeps_port)

theorem keeps_withdrawLoads {r₀ s : State} (j : SlotNo) (hk : Keeps r₀ s) : Keeps r₀ (withdrawLoads j s) := by
  unfold withdrawLoads
  try dsimp only
  iterate 60 try (first | with_reducible assumption | with_reducible apply keeps_withdrawLoad | (apply keeps_foldl; intro t a ht; try dsimp only) | split | with_reducible apply keeps_with | with_reducible apply keeps_port)

theorem keeps_holdJobFor {r₀ s : State} (j : SlotNo) (why : HoldReason) (hk : Keeps r₀ s) : Keeps r₀ (holdJobFor j why s) := by
  unfold holdJobFor
  try dsimp only
  iterate 60 try (first | with_reducible assumption | with_reducible apply keeps_withdrawLoads | with_reducible apply keeps_logEntry | with_reducible apply keeps_changeJob | ((with_reducible intro _ h); first | exact h | exact ⟨satInc_le h.1, h.2⟩ | exact ⟨satInc_le h.1, satInc_le h.2.1, h.2.2⟩ | exact ⟨h.1, satInc_le h.2.1, h.2.2⟩ | exact ⟨h.1, h.2.1, Nat.zero_le _⟩ | exact ⟨h.1, h.2.1, Nat.min_le_left _ _⟩) | split | with_reducible apply keeps_with | with_reducible apply keeps_port)

theorem keeps_testSerial {r₀ s : State} (j : SlotNo) (hk : Keeps r₀ s) : Keeps r₀ (testSerial j s) := by
  unfold testSerial
  try dsimp only
  iterate 60 try (first | with_reducible assumption | with_reducible apply keeps_holdJobFor | split)

theorem keeps_pickOne {r₀ s : State} (n : LaneNo) (hk : Keeps r₀ s) : Keeps r₀ (pickOne n s) := by
  unfold pickOne
  try dsimp only
  iterate 60 try (first | with_reducible assumption | with_reducible apply keeps_changeJob | with_reducible apply keeps_updDisc | with_reducible apply keeps_testSerial | with_reducible apply keeps_testCounts | with_reducible apply keeps_logEntry | with_reducible apply keeps_decideRejected | with_reducible apply keeps_State_emit | ((with_reducible intro _ h); first | exact h | exact ⟨satInc_le h.1, h.2⟩ | exact ⟨satInc_le h.1, satInc_le h.2.1, h.2.2⟩ | exact ⟨h.1, satInc_le h.2.1, h.2.2⟩ | exact ⟨h.1, h.2.1, Nat.zero_le _⟩ | exact ⟨h.1, h.2.1, Nat.min_le_left _ _⟩) | split | with_reducible apply keeps_with | with_reducible apply keeps_port)

theorem keeps_cancelPair {r₀ s : State} (n : LaneNo) (j : SlotNo) (hk : Keeps r₀ s) : Keeps r₀ (cancelPair n j s) := by
  unfold cancelPair
  try dsimp only
  iterate 60 try (first | with_reducible assumption | with_reducible apply keeps_testCounts | with_reducible apply keeps_endReservation | with_reducible apply keeps_changeJob | with_reducible apply keeps_withdrawTask | ((with_reducible intro _ h); first | exact h | exact ⟨satInc_le h.1, h.2⟩ | exact ⟨satInc_le h.1, satInc_le h.2.1, h.2.2⟩ | exact ⟨h.1, satInc_le h.2.1, h.2.2⟩ | exact ⟨h.1, h.2.1, Nat.zero_le _⟩ | exact ⟨h.1, h.2.1, Nat.min_le_left _ _⟩) | split | with_reducible apply keeps_with | with_reducible apply keeps_port)

theorem keeps_pickPair {r₀ s : State} (n : LaneNo) (hk : Keeps r₀ s) : Keeps r₀ (pickPair n s) := by
  unfold pickPair
  try dsimp only
  iterate 60 try (first | with_reducible assumption | with_reducible apply keeps_updDisc | with_reducible apply keeps_changeJob | with_reducible apply keeps_logEntry | with_reducible apply keeps_allocRecord | with_reducible apply keeps_State_updLane | with_reducible apply keeps_withdrawLoad | with_reducible apply keeps_cancelPair | with_reducible apply keeps_testSerial | ((with_reducible intro _ h); first | exact h | exact ⟨satInc_le h.1, h.2⟩ | exact ⟨satInc_le h.1, satInc_le h.2.1, h.2.2⟩ | exact ⟨h.1, satInc_le h.2.1, h.2.2⟩ | exact ⟨h.1, h.2.1, Nat.zero_le _⟩ | exact ⟨h.1, h.2.1, Nat.min_le_left _ _⟩ | exact h.cleared rfl rfl rfl (Nat.le_refl _) (.inl rfl) | exact h.cleared rfl rfl rfl (Nat.zero_le _) (.inl rfl) | exact h.cleared rfl rfl rfl (Nat.zero_le _) (.inr rfl)) | split | with_reducible apply keeps_with | with_reducible apply keeps_port)

theorem keeps_pickNone {r₀ s : State} (n : LaneNo) (hk : Keeps r₀ s) : Keeps r₀ (pickNone n s) := by
  unfold pickNone
  try dsimp only
  iterate 60 try (first | with_reducible assumption | with_reducible apply keeps_cancelReservation | split)

theorem keeps_reserveLane {r₀ s : State} (n : LaneNo) (j : SlotNo) (hk : Keeps r₀ s) : Keeps r₀ (reserveLane n j s) := by
  unfold reserveLane
  try dsimp only
  iterate 60 try (first | with_reducible assumption | with_reducible apply keeps_changeJob | with_reducible apply keeps_enterLane | with_reducible apply keeps_allocRecord | with_reducible apply keeps_State_updLane | with_reducible apply keeps_testCounts | with_reducible apply keeps_queueTask | ((with_reducible intro _ h); first | exact h | exact ⟨satInc_le h.1, h.2⟩ | exact ⟨satInc_le h.1, satInc_le h.2.1, h.2.2⟩ | exact ⟨h.1, satInc_le h.2.1, h.2.2⟩ | exact ⟨h.1, h.2.1, Nat.zero_le _⟩ | exact ⟨h.1, h.2.1, Nat.min_le_left _ _⟩ | exact h.cleared rfl rfl rfl (Nat.le_refl _) (.inl rfl) | exact h.cleared rfl rfl rfl (Nat.zero_le _) (.inl rfl) | exact h.cleared rfl rfl rfl (Nat.zero_le _) (.inr rfl)) | split | with_reducible apply keeps_with | with_reducible apply keeps_port)

theorem keeps_offerLane {r₀ s : State} (n : LaneNo) (hk : Keeps r₀ s) : Keeps r₀ (offerLane s n) := by
  unfold offerLane
  try dsimp only
  iterate 60 try (first | with_reducible assumption | with_reducible apply keeps_reserveLane | split | with_reducible apply keeps_with | with_reducible apply keeps_port)

theorem keeps_dispatchPass {r₀ s : State}  (hk : Keeps r₀ s) : Keeps r₀ (dispatchPass s) := by
  unfold dispatchPass
  try dsimp only
  iterate 60 try (first | with_reducible assumption | with_reducible apply keeps_offerLane | (apply keeps_foldl; intro t a ht; try dsimp only) | split)

theorem keeps_refreshStalls {r₀ s : State}  (hk : Keeps r₀ s) : Keeps r₀ (refreshStalls s) := by
  unfold refreshStalls
  try dsimp only
  iterate 60 try (first | with_reducible assumption | with_reducible apply keeps_changeJob | ((with_reducible intro _ h); first | exact h | exact ⟨satInc_le h.1, h.2⟩ | exact ⟨satInc_le h.1, satInc_le h.2.1, h.2.2⟩ | exact ⟨h.1, satInc_le h.2.1, h.2.2⟩ | exact ⟨h.1, h.2.1, Nat.zero_le _⟩ | exact ⟨h.1, h.2.1, Nat.min_le_left _ _⟩) | (apply keeps_foldl; intro t a ht; try dsimp only) | split | with_reducible apply keeps_with | with_reducible apply keeps_port)

theorem keeps_probePassed {r₀ s : State} (j : SlotNo) (hk : Keeps r₀ s) : Keeps r₀ (probePassed j s) := by
  unfold probePassed
  try dsimp only
  iterate 60 try (first | with_reducible assumption | with_reducible apply keeps_changeJob | ((with_reducible intro _ h); first | exact h | exact ⟨satInc_le h.1, h.2⟩ | exact ⟨satInc_le h.1, satInc_le h.2.1, h.2.2⟩ | exact ⟨h.1, satInc_le h.2.1, h.2.2⟩ | exact ⟨h.1, h.2.1, Nat.zero_le _⟩ | exact ⟨h.1, h.2.1, Nat.min_le_left _ _⟩) | split | with_reducible apply keeps_with | with_reducible apply keeps_port)

theorem keeps_probeRejected {r₀ s : State} (j : SlotNo) (why : RejectReason) (hk : Keeps r₀ s) : Keeps r₀ (probeRejected j why s) := by
  unfold probeRejected
  try dsimp only
  iterate 60 try (first | with_reducible assumption | with_reducible apply keeps_changeJob | with_reducible apply keeps_holdJobFor | ((with_reducible intro _ h); first | exact h | exact ⟨satInc_le h.1, h.2⟩ | exact ⟨satInc_le h.1, satInc_le h.2.1, h.2.2⟩ | exact ⟨h.1, satInc_le h.2.1, h.2.2⟩ | exact ⟨h.1, h.2.1, Nat.zero_le _⟩ | exact ⟨h.1, h.2.1, Nat.min_le_left _ _⟩) | split | with_reducible apply keeps_with | with_reducible apply keeps_port)

theorem keeps_freeUnit {r₀ s : State} (u : UnitNo) (hk : Keeps r₀ s) : Keeps r₀ (freeUnit u s) := by
  unfold freeUnit
  try dsimp only
  iterate 60 try (first | with_reducible assumption | with_reducible apply keeps_State_setUnit | with_reducible apply keeps_State_emit | split)

theorem keeps_updVerify {r₀ s : State} (n : LaneNo) (f : VerifyState → VerifyState)
    (hk : Keeps r₀ s) : Keeps r₀ (updVerify n f s) := by
  unfold updVerify
  try dsimp only
  iterate 60 try (first | with_reducible assumption | with_reducible apply keeps_State_updLane | ((with_reducible intro _ h); first | exact h | exact h.cleared rfl rfl rfl (Nat.le_refl _) (.inl rfl) | exact h.cleared rfl rfl rfl (Nat.zero_le _) (.inl rfl) | exact h.cleared rfl rfl rfl (Nat.zero_le _) (.inr rfl)) | split | with_reducible apply keeps_with | with_reducible apply keeps_port)

theorem keeps_giveBack {r₀ s : State} (n : LaneNo) (hk : Keeps r₀ s) : Keeps r₀ (giveBack n s) := by
  unfold giveBack
  try dsimp only
  iterate 60 try (first | with_reducible assumption | with_reducible apply keeps_updVerify | with_reducible apply keeps_State_setUnit | with_reducible apply keeps_freeUnit | with_reducible apply keeps_unpinKind | split | with_reducible apply keeps_with | with_reducible apply keeps_port)

theorem keeps_endEarly {r₀ s : State} (n : LaneNo) (hk : Keeps r₀ s) : Keeps r₀ (endEarly n s) := by
  unfold endEarly
  try dsimp only
  iterate 60 try (first | with_reducible assumption | with_reducible apply keeps_giveBack | with_reducible apply keeps_unpinKind | with_reducible apply keeps_State_updLane | with_reducible apply keeps_sendMsg | ((with_reducible intro _ h); first | exact h | exact h.cleared rfl rfl rfl (Nat.le_refl _) (.inl rfl) | exact h.cleared rfl rfl rfl (Nat.zero_le _) (.inl rfl) | exact h.cleared rfl rfl rfl (Nat.zero_le _) (.inr rfl)) | split | with_reducible apply keeps_with | with_reducible apply keeps_port)

theorem keeps_countWriteFault {r₀ s : State} (n : LaneNo) (hk : Keeps r₀ s) : Keeps r₀ (countWriteFault n s) := by
  unfold countWriteFault
  try dsimp only
  iterate 60 try (first | with_reducible assumption | with_reducible apply keeps_logEntry | with_reducible apply keeps_writeLane | with_reducible apply keeps_State_updLane | ((with_reducible intro _ h); first | exact ⟨h.1, h.2.1, h.2.2.1, Nat.min_le_left _ _, h.2.2.2.2⟩ | exact ⟨h.1, h.2.1, h.2.2.1, Nat.zero_le _, h.2.2.2.2⟩ | exact h | exact h.cleared rfl rfl rfl (Nat.le_refl _) (.inl rfl) | exact h.cleared rfl rfl rfl (Nat.zero_le _) (.inl rfl) | exact h.cleared rfl rfl rfl (Nat.zero_le _) (.inr rfl)) | split | with_reducible apply keeps_with | with_reducible apply keeps_port)

theorem keeps_rejectHeld {r₀ s : State} (n : LaneNo) (why : RejectReason) (code : Nat) (f : DiscRecord → DiscRecord)
    (hk : Keeps r₀ s) : Keeps r₀ (rejectHeld n why code f s) := by
  unfold rejectHeld
  try dsimp only
  iterate 60 try (first | with_reducible assumption | with_reducible apply keeps_decideRejected | with_reducible apply keeps_endEarly | with_reducible apply keeps_countWriteFault | split | with_reducible apply keeps_with | with_reducible apply keeps_port)

theorem keeps_laneReject {r₀ s : State} (n : LaneNo) (why : RejectReason) (code : Nat) (f : DiscRecord → DiscRecord)
    (hk : Keeps r₀ s) : Keeps r₀ (laneReject n why code f s) := by
  unfold laneReject
  try dsimp only
  iterate 60 try (first | with_reducible assumption | with_reducible apply keeps_rejectHeld | with_reducible apply keeps_requestUnload | with_reducible apply keeps_State_emit | split)

theorem keeps_verifyStop {r₀ s : State} (n : LaneNo) (why : RejectReason) (hk : Keeps r₀ s) : Keeps r₀ (verifyStop n why s) := by
  unfold verifyStop
  try dsimp only
  iterate 60 try (first | with_reducible assumption | with_reducible apply keeps_laneReject | split)

theorem keeps_verifyPass {r₀ s : State} (n : LaneNo) (hk : Keeps r₀ s) : Keeps r₀ (verifyPass n s) := by
  unfold verifyPass
  try dsimp only
  iterate 60 try (first | with_reducible assumption | with_reducible apply keeps_requestUnload | with_reducible apply keeps_updDisc | split | with_reducible apply keeps_with | with_reducible apply keeps_port)

theorem keeps_startBlock {r₀ s : State} (n : LaneNo) (sectors start : Nat)
    (hk : Keeps r₀ s) : Keeps r₀ (startBlock n sectors start s) := by
  unfold startBlock
  try dsimp only
  iterate 60 try (first | with_reducible assumption | with_reducible apply keeps_setWaits | with_reducible apply keeps_sendMsg | with_reducible apply keeps_State_updLane | ((with_reducible intro _ h); first | exact h | exact h.cleared rfl rfl rfl (Nat.le_refl _) (.inl rfl) | exact h.cleared rfl rfl rfl (Nat.zero_le _) (.inl rfl) | exact h.cleared rfl rfl rfl (Nat.zero_le _) (.inr rfl)) | split | with_reducible apply keeps_with | with_reducible apply keeps_port)

theorem keeps_enterVerifying {r₀ s : State} (n : LaneNo) (sectors : Nat) (hk : Keeps r₀ s) : Keeps r₀ (enterVerifying n sectors s) := by
  unfold enterVerifying
  try dsimp only
  iterate 60 try (first | with_reducible assumption | with_reducible apply keeps_startBlock | with_reducible apply keeps_enterLane | with_reducible apply keeps_State_updLane | ((with_reducible intro _ h); first | exact h | exact h.cleared rfl rfl rfl (Nat.le_refl _) (.inl rfl) | exact h.cleared rfl rfl rfl (Nat.zero_le _) (.inl rfl) | exact h.cleared rfl rfl rfl (Nat.zero_le _) (.inr rfl)) | split | with_reducible apply keeps_with | with_reducible apply keeps_port)

theorem keeps_nextBlock {r₀ s : State} (n : LaneNo) (sectors : Nat) (hk : Keeps r₀ s) : Keeps r₀ (nextBlock n sectors s) := by
  unfold nextBlock
  try dsimp only
  iterate 60 try (first | with_reducible assumption | with_reducible apply keeps_startBlock | with_reducible apply keeps_verifyPass | split)

theorem keeps_queueCompare {r₀ s : State} (n : LaneNo) (kind : CompareKind) (start count : Nat) (j : SlotNo) (serial : Option Nat)
    (hk : Keeps r₀ s) : Keeps r₀ (queueCompare n kind start count j serial s) := by
  unfold queueCompare
  try dsimp only
  iterate 60 try (first | with_reducible assumption | with_reducible apply keeps_updVerify | with_reducible apply keeps_State_emit | split | with_reducible apply keeps_with | with_reducible apply keeps_port)

theorem keeps_takeUnit {r₀ s : State} (r : CompareReq) (u : UnitNo) (hk : Keeps r₀ s) : Keeps r₀ (takeUnit r u s) := by
  unfold takeUnit
  try dsimp only
  iterate 60 try (first | with_reducible assumption | with_reducible apply keeps_State_setUnit | with_reducible apply keeps_updVerify | split | with_reducible apply keeps_with | with_reducible apply keeps_port)

theorem keeps_pinReference {r₀ s : State} (r : CompareReq) (u : UnitNo) (hk : Keeps r₀ s) : Keeps r₀ (pinReference r u s) := by
  unfold pinReference
  try dsimp only
  iterate 60 try (first | with_reducible assumption | with_reducible apply keeps_pinPage | with_reducible apply keeps_State_setUnit | with_reducible apply keeps_holdJobFor | with_reducible apply keeps_verifyStop | with_reducible apply keeps_freeUnit | with_reducible apply keeps_updVerify | split | with_reducible apply keeps_with | with_reducible apply keeps_port)

theorem keeps_grantUnit {r₀ s : State}  (hk : Keeps r₀ s) : Keeps r₀ (grantUnit s) := by
  unfold grantUnit
  try dsimp only
  iterate 60 try (first | with_reducible assumption | with_reducible apply keeps_pinReference | with_reducible apply keeps_takeUnit | split | with_reducible apply keeps_with | with_reducible apply keeps_port)

theorem keeps_takeGrants {r s : State} (n : Nat) (h : Keeps r s) : Keeps r (takeGrants n s) := by
  induction n generalizing s with
  | zero => exact h
  | succ k ih =>
    unfold takeGrants
    split
    · exact ih (keeps_grantUnit (keeps_with h))
    · exact h

theorem keeps_laneTurn {r₀ s : State}  (hk : Keeps r₀ s) : Keeps r₀ (laneTurn s) := by
  unfold laneTurn
  try dsimp only
  iterate 60 try (first | with_reducible assumption | with_reducible apply keeps_takeGrants | split)

theorem keeps_referenceReady {r₀ s : State} (n : LaneNo) (hk : Keeps r₀ s) : Keeps r₀ (referenceReady n s) := by
  unfold referenceReady
  try dsimp only
  iterate 60 try (first | with_reducible assumption | with_reducible apply keeps_State_setUnit | split | with_reducible apply keeps_with | with_reducible apply keeps_port)

theorem keeps_referenceFailed {r₀ s : State} (n : LaneNo) (hk : Keeps r₀ s) : Keeps r₀ (referenceFailed n s) := by
  unfold referenceFailed
  try dsimp only
  iterate 60 try (first | with_reducible assumption | with_reducible apply keeps_verifyStop | with_reducible apply keeps_freeUnit | with_reducible apply keeps_updVerify | split | with_reducible apply keeps_with | with_reducible apply keeps_port)

theorem keeps_diagEnd {r₀ s : State} (n : LaneNo) (how : DiagEnd) (hk : Keeps r₀ s) : Keeps r₀ (diagEnd n how s) := by
  unfold diagEnd
  try dsimp only
  iterate 60 try (first | with_reducible assumption | with_reducible apply keeps_unpinKind | with_reducible apply keeps_State_updLane | with_reducible apply keeps_logEntry | with_reducible apply keeps_writeLane | with_reducible apply keeps_State_emit | ((with_reducible intro _ h); first | exact h | exact h.cleared rfl rfl rfl (Nat.le_refl _) (.inl rfl) | exact h.cleared rfl rfl rfl (Nat.zero_le _) (.inl rfl) | exact h.cleared rfl rfl rfl (Nat.zero_le _) (.inr rfl)) | split | with_reducible apply keeps_with | with_reducible apply keeps_port)

theorem keeps_diagQueue {r₀ s : State} (n : LaneNo) (start : Nat) (hk : Keeps r₀ s) : Keeps r₀ (diagQueue n start s) := by
  unfold diagQueue
  try dsimp only
  iterate 60 try (first | with_reducible assumption | with_reducible apply keeps_queueCompare | with_reducible apply keeps_State_updLane | ((with_reducible intro _ h); first | exact h | exact h.cleared rfl rfl rfl (Nat.le_refl _) (.inl rfl) | exact h.cleared rfl rfl rfl (Nat.zero_le _) (.inl rfl) | exact h.cleared rfl rfl rfl (Nat.zero_le _) (.inr rfl)) | split | with_reducible apply keeps_with | with_reducible apply keeps_port)

theorem keeps_diagReady {r₀ s : State} (n : LaneNo) (hk : Keeps r₀ s) : Keeps r₀ (diagReady n s) := by
  unfold diagReady
  try dsimp only
  iterate 60 try (first | with_reducible assumption | with_reducible apply keeps_diagQueue | split | with_reducible apply keeps_with | with_reducible apply keeps_port)

theorem keeps_diagFailed {r₀ s : State} (n : LaneNo) (hk : Keeps r₀ s) : Keeps r₀ (diagFailed n s) := by
  unfold diagFailed
  try dsimp only
  iterate 60 try (first | with_reducible assumption | with_reducible apply keeps_diagEnd | split)

theorem keeps_diagPage {r₀ s : State} (n : LaneNo) (hk : Keeps r₀ s) : Keeps r₀ (diagPage n s) := by
  unfold diagPage
  try dsimp only
  iterate 60 try (first | with_reducible assumption | with_reducible apply keeps_diagReady | with_reducible apply keeps_pinPage | with_reducible apply keeps_holdJobFor | with_reducible apply keeps_diagFailed | split | with_reducible apply keeps_with | with_reducible apply keeps_port)

theorem keeps_diagStart {r₀ s : State} (n : LaneNo) (j : SlotNo) (first count : Nat) (serial : Option Nat)
    (hk : Keeps r₀ s) : Keeps r₀ (diagStart n j first count serial s) := by
  unfold diagStart
  try dsimp only
  iterate 60 try (first | with_reducible assumption | with_reducible apply keeps_diagPage | with_reducible apply keeps_State_updLane | ((with_reducible intro _ h); first | exact h | exact h.cleared rfl rfl rfl (Nat.le_refl _) (.inl rfl) | exact h.cleared rfl rfl rfl (Nat.zero_le _) (.inl rfl) | exact h.cleared rfl rfl rfl (Nat.zero_le _) (.inr rfl)) | split | with_reducible apply keeps_with | with_reducible apply keeps_port)

theorem keeps_diagBlockDone {r₀ s : State} (n : LaneNo) (tally : Nat) (firstDiff : Option Nat)
    (hk : Keeps r₀ s) : Keeps r₀ (diagBlockDone n tally firstDiff s) := by
  unfold diagBlockDone
  try dsimp only
  iterate 60 try (first | with_reducible assumption | with_reducible apply keeps_diagQueue | with_reducible apply keeps_State_updLane | with_reducible apply keeps_unpinKind | with_reducible apply keeps_diagPage | with_reducible apply keeps_diagEnd | ((with_reducible intro _ h); first | exact h | exact h.cleared rfl rfl rfl (Nat.le_refl _) (.inl rfl) | exact h.cleared rfl rfl rfl (Nat.zero_le _) (.inl rfl) | exact h.cleared rfl rfl rfl (Nat.zero_le _) (.inr rfl)) | split | with_reducible apply keeps_with | with_reducible apply keeps_port)

theorem keeps_tellReady {r₀ s : State} (page : LanePin) (n : LaneNo) (hk : Keeps r₀ s) : Keeps r₀ (tellReady page n s) := by
  unfold tellReady
  try dsimp only
  iterate 60 try (first | with_reducible assumption | with_reducible apply keeps_referenceReady | with_reducible apply keeps_diagReady | split | with_reducible apply keeps_with | with_reducible apply keeps_port)

theorem keeps_tellFailed {r₀ s : State} (page : LanePin) (n : LaneNo) (hk : Keeps r₀ s) : Keeps r₀ (tellFailed page n s) := by
  unfold tellFailed
  try dsimp only
  iterate 60 try (first | with_reducible assumption | with_reducible apply keeps_laneReject | with_reducible apply keeps_referenceFailed | with_reducible apply keeps_diagFailed | split | with_reducible apply keeps_with | with_reducible apply keeps_port)

theorem keeps_tellAllReady {r₀ s : State} (who : List (LaneNo × LanePin)) (hk : Keeps r₀ s) : Keeps r₀ (tellAllReady who s) := by
  unfold tellAllReady
  try dsimp only
  iterate 60 try (first | with_reducible assumption | with_reducible apply keeps_tellReady | (apply keeps_foldl; intro t a ht; try dsimp only) | split)

theorem keeps_tellAllFailed {r₀ s : State} (who : List (LaneNo × LanePin)) (hk : Keeps r₀ s) : Keeps r₀ (tellAllFailed who s) := by
  unfold tellAllFailed
  try dsimp only
  iterate 60 try (first | with_reducible assumption | with_reducible apply keeps_laneTurn | with_reducible apply keeps_tellFailed | (apply keeps_foldl; intro t a ht; try dsimp only) | split)

theorem keeps_removePin {r₀ s : State} (x : LaneNo × LanePin) (hk : Keeps r₀ s) : Keeps r₀ (removePin x s) := by
  unfold removePin
  try dsimp only
  iterate 60 try (first | with_reducible assumption | with_reducible apply keeps_State_updLane | ((with_reducible intro _ h); first | exact h | exact h.cleared rfl rfl rfl (Nat.le_refl _) (.inl rfl) | exact h.cleared rfl rfl rfl (Nat.zero_le _) (.inl rfl) | exact h.cleared rfl rfl rfl (Nat.zero_le _) (.inr rfl)) | split | with_reducible apply keeps_with | with_reducible apply keeps_port)

theorem keeps_fillSucceeds {r₀ s : State} (slot : Fin 8) (x : Fill) (hk : Keeps r₀ s) : Keeps r₀ (fillSucceeds slot x s) := by
  unfold fillSucceeds
  try dsimp only
  iterate 60 try (first | with_reducible assumption | with_reducible apply keeps_looseFrame | with_reducible apply keeps_State_setFrame | with_reducible apply keeps_tellAllReady | with_reducible apply keeps_feStart | with_reducible apply keeps_clearFill | split | with_reducible apply keeps_with | with_reducible apply keeps_port)

theorem keeps_pageFails {r₀ s : State} (slot : Fin 8) (x : Fill) (how : FetchFailure)
    (hk : Keeps r₀ s) : Keeps r₀ (pageFails slot x how s) := by
  unfold pageFails
  try dsimp only
  iterate 60 try (first | with_reducible assumption | with_reducible apply keeps_feStart | with_reducible apply keeps_clearFill | with_reducible apply keeps_State_setFrame | with_reducible apply keeps_logEntry | with_reducible apply keeps_tellAllFailed | with_reducible apply keeps_removePin | with_reducible apply keeps_holdJobFor | (apply keeps_foldl; intro t a ht; try dsimp only) | split | with_reducible apply keeps_with | with_reducible apply keeps_port)

theorem keeps_releasedFails {r₀ s : State} (slot : Fin 8) (x : Fill) (hk : Keeps r₀ s) : Keeps r₀ (releasedFails slot x s) := by
  unfold releasedFails
  try dsimp only
  iterate 60 try (first | with_reducible assumption | with_reducible apply keeps_removePin | with_reducible apply keeps_State_setFrame | with_reducible apply keeps_tellAllFailed | with_reducible apply keeps_feStart | with_reducible apply keeps_clearFill | (apply keeps_foldl; intro t a ht; try dsimp only) | split)

theorem keeps_attemptFails {r₀ s : State} (slot : Fin 8) (x : Fill) (how : FetchFailure)
    (hk : Keeps r₀ s) : Keeps r₀ (attemptFails slot x how s) := by
  unfold attemptFails
  try dsimp only
  iterate 60 try (first | with_reducible assumption | with_reducible apply keeps_releasedFails | with_reducible apply keeps_setFill | with_reducible apply keeps_State_setFrame | with_reducible apply keeps_pageFails | split | with_reducible apply keeps_with | with_reducible apply keeps_port)

theorem keeps_dram {r s : State} (a : Nat) (bs : List Byte) (h : Keeps r s) :
    Keeps r { s with dram := Memory.writeBytes s.dram a bs } :=
  ⟨h.base, h.size, h.enables, h.pending, h.bridges, h.cause, h.time, h.logs, h.updates, h.fits,
    fun hr => ⟨Memory.wf_writeBytes _ _ _ (h.memories hr).1, (h.memories hr).2⟩, h.shows⟩

theorem keeps_readCompletes {r s : State} (slot : Fin 8) (x : Fill) (read : Nat) (bs : List Byte) (h : Keeps r s) :
    Keeps r (readCompletes slot x read bs s) := by
  unfold readCompletes
  dsimp only
  split
  · exact keeps_fillSucceeds _ _ (keeps_dram _ _ h)
  · exact keeps_setFill _ _ (keeps_dram _ _ h)

theorem keeps_fillRead {r₀ s : State} (fill attempt read : Nat) (result : HostRead)
    (hk : Keeps r₀ s) : Keeps r₀ (fillRead fill attempt read result s) := by
  unfold fillRead
  try dsimp only
  iterate 60 try (first | with_reducible assumption | with_reducible apply keeps_readCompletes | with_reducible apply keeps_attemptFails | split | with_reducible apply keeps_with | with_reducible apply keeps_port)

theorem keeps_fillExpired {r₀ s : State} (fill attempt read : Nat) (hk : Keeps r₀ s) : Keeps r₀ (fillExpired fill attempt read s) := by
  unfold fillExpired
  try dsimp only
  iterate 60 try (first | with_reducible assumption | with_reducible apply keeps_attemptFails | with_reducible apply keeps_State_advanceTo | split | with_reducible apply keeps_with | with_reducible apply keeps_port)

end Sys2Proof.Machine
end

