-- ==== Sys2Proof/Laws/KeepsArm.lean ====
section
/-! SUPPORT. What the part keeps (`Keeps`): the same for the printer and the arm. -/

namespace Sys2Proof.Machine

theorem keeps_writePrinter {r s : State} (h : Keeps r s) : Keeps r (writePrinter s) :=
  keeps_report _ _ h (by simp only [printerRegion]; omega)

theorem keeps_updPrinter {r₀ s : State} (f : Printer → Printer) (hk : Keeps r₀ s) : Keeps r₀ (updPrinter f s) := by
  unfold updPrinter
  try dsimp only
  iterate 60 try (first | with_reducible assumption | split | with_reducible apply keeps_with | with_reducible apply keeps_port)

theorem keeps_changePrinter {r₀ s : State} (f : Printer → Printer) (hk : Keeps r₀ s) : Keeps r₀ (changePrinter f s) := by
  unfold changePrinter
  try dsimp only
  iterate 60 try (first | with_reducible assumption | with_reducible apply keeps_updPrinter | with_reducible apply keeps_writePrinter | split)

theorem keeps_startMove {r₀ s : State} (m : TrayMove) (hk : Keeps r₀ s) : Keeps r₀ (startMove m s) := by
  unfold startMove
  try dsimp only
  iterate 60 try (first | with_reducible assumption | with_reducible apply keeps_updPrinter | split | with_reducible apply keeps_with | with_reducible apply keeps_port)

theorem keeps_answerPresent {r₀ s : State}  (hk : Keeps r₀ s) : Keeps r₀ (answerPresent s) := by
  unfold answerPresent
  try dsimp only
  iterate 60 try (first | with_reducible assumption | with_reducible apply keeps_updPrinter | with_reducible apply keeps_State_emit | split | with_reducible apply keeps_with | with_reducible apply keeps_port)

theorem keeps_seekHome {r₀ s : State}  (hk : Keeps r₀ s) : Keeps r₀ (seekHome s) := by
  unfold seekHome
  try dsimp only
  iterate 60 try (first | with_reducible assumption | with_reducible apply keeps_answerPresent | with_reducible apply keeps_State_draw | with_reducible apply keeps_startMove | split)

theorem keeps_servePresent {r₀ s : State}  (hk : Keeps r₀ s) : Keeps r₀ (servePresent s) := by
  unfold servePresent
  try dsimp only
  iterate 60 try (first | with_reducible assumption | with_reducible apply keeps_answerPresent | with_reducible apply keeps_seekHome | split)

theorem keeps_askPresent {r₀ s : State}  (hk : Keeps r₀ s) : Keeps r₀ (askPresent s) := by
  unfold askPresent
  try dsimp only
  iterate 60 try (first | with_reducible assumption | with_reducible apply keeps_servePresent | with_reducible apply keeps_updPrinter | split | with_reducible apply keeps_with | with_reducible apply keeps_port)

theorem keeps_queuePrinterUnload {r₀ s : State}  (hk : Keeps r₀ s) : Keeps r₀ (queuePrinterUnload s) := by
  unfold queuePrinterUnload
  try dsimp only
  iterate 60 try (first | with_reducible assumption | with_reducible apply keeps_queueTask | split)

theorem keeps_finishPrinter {r₀ s : State}  (hk : Keeps r₀ s) : Keeps r₀ (finishPrinter s) := by
  unfold finishPrinter
  try dsimp only
  iterate 60 try (first | with_reducible assumption | with_reducible apply keeps_servePresent | with_reducible apply keeps_queuePrinterUnload | with_reducible apply keeps_changePrinter | split | with_reducible apply keeps_with | with_reducible apply keeps_port)

theorem keeps_endBinding {r₀ s : State}  (hk : Keeps r₀ s) : Keeps r₀ (endBinding s) := by
  unfold endBinding
  try dsimp only
  iterate 60 try (first | with_reducible assumption | with_reducible apply keeps_updPrinter | with_reducible apply keeps_logEntry | split | with_reducible apply keeps_with | with_reducible apply keeps_port)

theorem keeps_rejectLabel {r₀ s : State}  (hk : Keeps r₀ s) : Keeps r₀ (rejectLabel s) := by
  unfold rejectLabel
  try dsimp only
  iterate 60 try (first | with_reducible assumption | with_reducible apply keeps_decideRejected | split | with_reducible apply keeps_with | with_reducible apply keeps_port)

theorem keeps_completeLabel {r₀ s : State}  (hk : Keeps r₀ s) : Keeps r₀ (completeLabel s) := by
  unfold completeLabel
  try dsimp only
  iterate 60 try (first | with_reducible assumption | with_reducible apply keeps_updPrinter | with_reducible apply keeps_updDisc | split | with_reducible apply keeps_with | with_reducible apply keeps_port)

theorem keeps_endComplete {r₀ s : State}  (hk : Keeps r₀ s) : Keeps r₀ (endComplete s) := by
  unfold endComplete
  try dsimp only
  iterate 60 try (first | with_reducible assumption | with_reducible apply keeps_writePrinter | with_reducible apply keeps_completeLabel | with_reducible apply keeps_endBinding | split)

theorem keeps_endIncomplete {r₀ s : State}  (hk : Keeps r₀ s) : Keeps r₀ (endIncomplete s) := by
  unfold endIncomplete
  try dsimp only
  iterate 60 try (first | with_reducible assumption | with_reducible apply keeps_writePrinter | with_reducible apply keeps_rejectLabel | with_reducible apply keeps_endBinding | split)

theorem keeps_stopMotion {r₀ s : State}  (hk : Keeps r₀ s) : Keeps r₀ (stopMotion s) := by
  unfold stopMotion
  try dsimp only
  iterate 60 try (first | with_reducible assumption | with_reducible apply keeps_updPrinter | with_reducible apply keeps_State_draw | split | with_reducible apply keeps_with | with_reducible apply keeps_port)

theorem keeps_printerFail {r₀ s : State} (cause : PrinterCause) (hk : Keeps r₀ s) : Keeps r₀ (printerFail cause s) := by
  unfold printerFail
  try dsimp only
  iterate 60 try (first | with_reducible assumption | with_reducible apply keeps_updPrinter | with_reducible apply keeps_stopMotion | with_reducible apply keeps_endIncomplete | with_reducible apply keeps_rejectLabel | with_reducible apply keeps_logEntry | with_reducible apply keeps_writePrinter | split | with_reducible apply keeps_with | with_reducible apply keeps_port)

theorem keeps_ribbonFails {r₀ s : State}  (hk : Keeps r₀ s) : Keeps r₀ (ribbonFails s) := by
  unfold ribbonFails
  try dsimp only
  iterate 60 try (first | with_reducible assumption | with_reducible apply keeps_servePresent | with_reducible apply keeps_printerFail | split)

theorem keeps_enterEmpty {r₀ s : State} (ribbonOut : Bool) (hk : Keeps r₀ s) : Keeps r₀ (enterEmpty ribbonOut s) := by
  unfold enterEmpty
  try dsimp only
  iterate 60 try (first | with_reducible assumption | with_reducible apply keeps_ribbonFails | with_reducible apply keeps_servePresent | with_reducible apply keeps_changePrinter | with_reducible apply keeps_State_emit | split | with_reducible apply keeps_with | with_reducible apply keeps_port)

theorem keeps_printerPlaced {r₀ s : State} (d : DiscRef) (hk : Keeps r₀ s) : Keeps r₀ (printerPlaced d s) := by
  unfold printerPlaced
  try dsimp only
  iterate 60 try (first | with_reducible assumption | with_reducible apply keeps_changePrinter | with_reducible apply keeps_rejectLabel | with_reducible apply keeps_startMove | split | with_reducible apply keeps_with | with_reducible apply keeps_port)

theorem keeps_printerTaken {r₀ s : State} (ribbonOut : Bool) (hk : Keeps r₀ s) : Keeps r₀ (printerTaken ribbonOut s) := by
  unfold printerTaken
  try dsimp only
  iterate 60 try (first | with_reducible assumption | with_reducible apply keeps_changePrinter | with_reducible apply keeps_enterEmpty | split | with_reducible apply keeps_with | with_reducible apply keeps_port)

theorem keeps_setSlot {r₀ s : State} (line : Nat) (v : LineSlot) (hk : Keeps r₀ s) : Keeps r₀ (setSlot line v s) := by
  unfold setSlot
  try dsimp only
  iterate 60 try (first | with_reducible assumption | with_reducible apply keeps_updPrinter | split | with_reducible apply keeps_with | with_reducible apply keeps_port)

theorem keeps_issueRead {r₀ s : State}  (hk : Keeps r₀ s) : Keeps r₀ (issueRead s) := by
  unfold issueRead
  try dsimp only
  iterate 60 try (first | with_reducible assumption | with_reducible apply keeps_updPrinter | with_reducible apply keeps_setSlot | split | with_reducible apply keeps_with | with_reducible apply keeps_port)

theorem keeps_printStart {r₀ s : State} (sample : Sample) (hk : Keeps r₀ s) : Keeps r₀ (printStart sample s) := by
  unfold printStart
  try dsimp only
  iterate 60 try (first | with_reducible assumption | with_reducible apply keeps_updPrinter | with_reducible apply keeps_updDisc | with_reducible apply keeps_writePrinter | with_reducible apply keeps_issueRead | split | with_reducible apply keeps_with | with_reducible apply keeps_port)

theorem keeps_enterHold {r₀ s : State} (st : PrinterState) (hk : Keeps r₀ s) : Keeps r₀ (enterHold st s) := by
  unfold enterHold
  try dsimp only
  iterate 60 try (first | with_reducible assumption | with_reducible apply keeps_writePrinter | with_reducible apply keeps_updPrinter | split | with_reducible apply keeps_with | with_reducible apply keeps_port)

theorem keeps_beginStrike {r₀ s : State} (k : Strike) (hk : Keeps r₀ s) : Keeps r₀ (beginStrike k s) := by
  unfold beginStrike
  try dsimp only
  iterate 60 try (first | with_reducible assumption | with_reducible apply keeps_updPrinter | split | with_reducible apply keeps_with | with_reducible apply keeps_port)

theorem keeps_computeLine {r₀ s : State} (bs : List Byte) (hk : Keeps r₀ s) : Keeps r₀ (computeLine bs s) := by
  unfold computeLine
  try dsimp only
  iterate 60 try (first | with_reducible assumption | with_reducible apply keeps_printerFail | with_reducible apply keeps_enterHold | with_reducible apply keeps_logEntry | with_reducible apply keeps_beginStrike | split | with_reducible apply keeps_with | with_reducible apply keeps_port)

theorem keeps_strikeLine {r₀ s : State} (bs : List Byte) (hk : Keeps r₀ s) : Keeps r₀ (strikeLine bs s) := by
  unfold strikeLine
  try dsimp only
  iterate 60 try (first | with_reducible assumption | with_reducible apply keeps_ribbonFails | with_reducible apply keeps_State_draw | with_reducible apply keeps_computeLine | split | with_reducible apply keeps_with | with_reducible apply keeps_port)

theorem keeps_tryStrike {r₀ s : State}  (hk : Keeps r₀ s) : Keeps r₀ (tryStrike s) := by
  unfold tryStrike
  try dsimp only
  iterate 60 try (first | with_reducible assumption | with_reducible apply keeps_strikeLine | with_reducible apply keeps_updPrinter | split | with_reducible apply keeps_with | with_reducible apply keeps_port)

theorem keeps_starveLine {r₀ s : State}  (hk : Keeps r₀ s) : Keeps r₀ (starveLine s) := by
  unfold starveLine
  try dsimp only
  iterate 60 try (first | with_reducible assumption | with_reducible apply keeps_updPrinter | split | with_reducible apply keeps_with | with_reducible apply keeps_port)

theorem keeps_lineStruck {r₀ s : State} (k : Strike) (sample : Sample) (hk : Keeps r₀ s) : Keeps r₀ (lineStruck k sample s) := by
  unfold lineStruck
  try dsimp only
  iterate 60 try (first | with_reducible assumption | with_reducible apply keeps_setSlot | with_reducible apply keeps_updPrinter | split | with_reducible apply keeps_with | with_reducible apply keeps_port)

theorem keeps_continuePrint {r₀ s : State} (lineStart period : Nat) (hk : Keeps r₀ s) : Keeps r₀ (continuePrint lineStart period s) := by
  unfold continuePrint
  try dsimp only
  iterate 60 try (first | with_reducible assumption | with_reducible apply keeps_startMove | with_reducible apply keeps_updPrinter | with_reducible apply keeps_issueRead | split | with_reducible apply keeps_with | with_reducible apply keeps_port)

theorem keeps_endOnRead {r₀ s : State}  (hk : Keeps r₀ s) : Keeps r₀ (endOnRead s) := by
  unfold endOnRead
  try dsimp only
  iterate 60 try (first | with_reducible assumption | with_reducible apply keeps_finishPrinter | with_reducible apply keeps_endIncomplete | split)

theorem keeps_afterLine {r₀ s : State} (lineStart period : Nat) (hk : Keeps r₀ s) : Keeps r₀ (afterLine lineStart period s) := by
  unfold afterLine
  try dsimp only
  iterate 60 try (first | with_reducible assumption | with_reducible apply keeps_finishPrinter | with_reducible apply keeps_endComplete | with_reducible apply keeps_printerFail | with_reducible apply keeps_endOnRead | with_reducible apply keeps_continuePrint | split)

theorem keeps_haltPrinter {r₀ s : State}  (hk : Keeps r₀ s) : Keeps r₀ (haltPrinter s) := by
  unfold haltPrinter
  try dsimp only
  iterate 60 try (first | with_reducible assumption | with_reducible apply keeps_changePrinter | with_reducible apply keeps_updPrinter | with_reducible apply keeps_endIncomplete | with_reducible apply keeps_rejectLabel | split | with_reducible apply keeps_with | with_reducible apply keeps_port)

theorem keeps_releasePrinter {r₀ s : State}  (hk : Keeps r₀ s) : Keeps r₀ (releasePrinter s) := by
  unfold releasePrinter
  try dsimp only
  iterate 60 try (first | with_reducible assumption | with_reducible apply keeps_changePrinter | with_reducible apply keeps_finishPrinter | with_reducible apply keeps_servePresent | split | with_reducible apply keeps_with | with_reducible apply keeps_port)

theorem keeps_updTask {r₀ s : State} (f : ArmTask → ArmTask) (hk : Keeps r₀ s) : Keeps r₀ (updTask f s) := by
  unfold updTask
  try dsimp only
  iterate 60 try (first | with_reducible assumption | with_reducible refine keeps_changeArm _ ?_ rfl | split | with_reducible apply keeps_with | with_reducible apply keeps_port)

theorem keeps_setPhase {r₀ s : State} (p : ArmPhase) (hk : Keeps r₀ s) : Keeps r₀ (setPhase p s) := by
  unfold setPhase
  try dsimp only
  iterate 60 try (first | with_reducible assumption | with_reducible apply keeps_updTask | split | with_reducible apply keeps_with | with_reducible apply keeps_port)

theorem keeps_startTimer {r₀ s : State}  (hk : Keeps r₀ s) : Keeps r₀ (startTimer s) := by
  unfold startTimer
  try dsimp only
  iterate 60 try (first | with_reducible assumption | split | with_reducible apply keeps_with | with_reducible apply keeps_port | with_reducible refine keeps_unseen ?_ (by with_unfolding_all rfl) (by with_unfolding_all rfl))

theorem keeps_keepTimer {r₀ s : State}  (hk : Keeps r₀ s) : Keeps r₀ (keepTimer s) := by
  unfold keepTimer
  try dsimp only
  iterate 60 try (first | with_reducible assumption | with_reducible apply keeps_startTimer | split)

theorem keeps_stopTimer {r₀ s : State}  (hk : Keeps r₀ s) : Keeps r₀ (stopTimer s) := by
  unfold stopTimer
  try dsimp only
  iterate 60 try (first | with_reducible assumption | split | with_reducible apply keeps_with | with_reducible apply keeps_port | with_reducible refine keeps_unseen ?_ (by with_unfolding_all rfl) (by with_unfolding_all rfl))

theorem keeps_setGripper {r₀ s : State} (closed : Bool) (sense : Sensors) (hk : Keeps r₀ s) : Keeps r₀ (setGripper closed sense s) := by
  unfold setGripper
  try dsimp only
  iterate 60 try (first | with_reducible assumption | with_reducible refine keeps_changeArm _ ?_ rfl | split | with_reducible apply keeps_with | with_reducible apply keeps_port)

theorem keeps_openForGrip {r₀ s : State} (sense : Sensors) (hk : Keeps r₀ s) : Keeps r₀ (openForGrip sense s) := by
  unfold openForGrip
  try dsimp only
  iterate 60 try (first | with_reducible assumption | with_reducible apply keeps_setGripper | split)

theorem keeps_setLocation {r₀ s : State} (i : DiscNo) (l : Location) (hk : Keeps r₀ s) : Keeps r₀ (setLocation i l s) := by
  unfold setLocation
  try dsimp only
  iterate 60 try (first | with_reducible assumption | with_reducible apply keeps_updDisc | split | with_reducible apply keeps_with | with_reducible apply keeps_port)

theorem keeps_showPositions {r₀ s : State}  (hk : Keeps r₀ s) : Keeps r₀ (showPositions s) := by
  unfold showPositions
  try dsimp only
  iterate 60 try (first | with_reducible assumption | with_reducible refine keeps_changeArm _ ?_ rfl | split | with_reducible apply keeps_with | with_reducible apply keeps_port)

theorem keeps_setLift {r₀ s : State} (h : Nat) (hk : Keeps r₀ s) : Keeps r₀ (setLift h s) := by
  unfold setLift
  try dsimp only
  iterate 60 try (first | with_reducible assumption | split | with_reducible apply keeps_with | with_reducible apply keeps_port | with_reducible refine keeps_unseen ?_ (by with_unfolding_all rfl) (by with_unfolding_all rfl))

theorem keeps_setSwing {r₀ s : State} (p : Nat) (hk : Keeps r₀ s) : Keeps r₀ (setSwing p s) := by
  unfold setSwing
  try dsimp only
  iterate 60 try (first | with_reducible assumption | split | with_reducible apply keeps_with | with_reducible apply keeps_port | with_reducible refine keeps_unseen ?_ (by with_unfolding_all rfl) (by with_unfolding_all rfl))

theorem keeps_endAtOnce {r₀ s : State}  (hk : Keeps r₀ s) : Keeps r₀ (endAtOnce s) := by
  unfold endAtOnce
  try dsimp only
  iterate 60 try (first | with_reducible assumption | with_reducible apply keeps_State_emit | split)

theorem keeps_askTray {r₀ s : State} (c : ArmTask) (k : StationNo) (hk : Keeps r₀ s) : Keeps r₀ (askTray c k s) := by
  unfold askTray
  try dsimp only
  iterate 60 try (first | with_reducible assumption | with_reducible apply keeps_laneAskOpen | with_reducible apply keeps_askPresent | split | with_reducible apply keeps_with | with_reducible apply keeps_port)

theorem keeps_arriveAt {r₀ s : State} (toDest : Bool) (sense : Sensors) (hk : Keeps r₀ s) : Keeps r₀ (arriveAt toDest sense s) := by
  unfold arriveAt
  try dsimp only
  iterate 60 try (first | with_reducible assumption | with_reducible apply keeps_showPositions | with_reducible apply keeps_stopTimer | with_reducible apply keeps_setPhase | with_reducible apply keeps_State_emit | with_reducible apply keeps_askTray | with_reducible apply keeps_openForGrip | split | with_reducible apply keeps_with | with_reducible apply keeps_port | with_reducible refine keeps_unseen ?_ (by with_unfolding_all rfl) (by with_unfolding_all rfl))

theorem keeps_startApproach {r₀ s : State} (toDest : Bool) (sense : Sensors)
    (hk : Keeps r₀ s) : Keeps r₀ (startApproach toDest sense s) := by
  unfold startApproach
  try dsimp only
  iterate 60 try (first | with_reducible assumption | with_reducible apply keeps_stopTimer | with_reducible apply keeps_setPhase | with_reducible apply keeps_keepTimer | with_reducible apply keeps_arriveAt | split | with_reducible apply keeps_with | with_reducible apply keeps_port | with_reducible refine keeps_unseen ?_ (by with_unfolding_all rfl) (by with_unfolding_all rfl))

theorem keeps_beginApproach {r₀ s : State} (toDest : Bool) (hk : Keeps r₀ s) : Keeps r₀ (beginApproach toDest s) := by
  unfold beginApproach
  try dsimp only
  iterate 60 try (first | with_reducible assumption | with_reducible apply keeps_startApproach | with_reducible apply keeps_State_draw | split)

theorem keeps_makeRejectCarry {r₀ s : State} (thenFaulted : Bool) (hk : Keeps r₀ s) : Keeps r₀ (makeRejectCarry thenFaulted s) := by
  unfold makeRejectCarry
  try dsimp only
  iterate 60 try (first | with_reducible assumption | with_reducible apply keeps_setClaim | with_reducible apply keeps_updTask | with_reducible apply keeps_laneWithdrawn | split | with_reducible apply keeps_with | with_reducible apply keeps_port | with_reducible refine keeps_unseen ?_ (by with_unfolding_all rfl) (by with_unfolding_all rfl))

theorem keeps_turnToReject {r₀ s : State}  (hk : Keeps r₀ s) : Keeps r₀ (turnToReject s) := by
  unfold turnToReject
  try dsimp only
  iterate 60 try (first | with_reducible assumption | with_reducible apply keeps_beginApproach | with_reducible apply keeps_makeRejectCarry | split)

theorem keeps_armRejected {r₀ s : State}  (hk : Keeps r₀ s) : Keeps r₀ (armRejected s) := by
  unfold armRejected
  try dsimp only
  iterate 60 try (first | with_reducible assumption | with_reducible apply keeps_turnToReject | with_reducible apply keeps_updTask | split | with_reducible apply keeps_with | with_reducible apply keeps_port | with_reducible refine keeps_unseen ?_ (by with_unfolding_all rfl) (by with_unfolding_all rfl))

theorem keeps_tellClosed {r₀ s : State} (ribbonOut : Bool) (hk : Keeps r₀ s) : Keeps r₀ (tellClosed ribbonOut s) := by
  unfold tellClosed
  try dsimp only
  iterate 60 try (first | with_reducible assumption | with_reducible apply keeps_updTask | with_reducible apply keeps_laneToldClose | with_reducible apply keeps_printerTaken | split | with_reducible apply keeps_with | with_reducible apply keeps_port | with_reducible refine keeps_unseen ?_ (by with_unfolding_all rfl) (by with_unfolding_all rfl))

theorem keeps_armIdle {r₀ s : State}  (hk : Keeps r₀ s) : Keeps r₀ (armIdle s) := by
  unfold armIdle
  try dsimp only
  iterate 60 try (first | with_reducible assumption | with_reducible apply keeps_stopTimer | with_reducible refine keeps_changeArm _ ?_ rfl | with_reducible apply keeps_State_emit | split | with_reducible apply keeps_with | with_reducible apply keeps_port)

/-- The mark of a step of the sweep is no item of the transport status or of the map. -/
theorem markSweep_shows (kind : TaskKind) (t : Transport) :
    transportBlock (markSweep kind t) = transportBlock t ∧ (markSweep kind t).map = t.map := by
  cases kind <;> exact ⟨rfl, rfl⟩

theorem keeps_endTask {r₀ s : State} (hk : Keeps r₀ s) : Keeps r₀ (endTask s) := by
  unfold endTask
  split
  · exact keeps_armIdle (keeps_unseen hk (markSweep_shows _ _).1 (markSweep_shows _ _).2)
  · exact keeps_armIdle hk

theorem keeps_giveUpUnload {r₀ s : State} (n : LaneNo) (hk : Keeps r₀ s) : Keeps r₀ (giveUpUnload n s) := by
  unfold giveUpUnload
  try dsimp only
  iterate 60 try (first | with_reducible assumption | with_reducible apply keeps_setClaim | with_reducible apply keeps_endTask | with_reducible apply keeps_updTask | with_reducible refine keeps_changeArm _ ?_ rfl | split | with_reducible apply keeps_with | with_reducible apply keeps_port | with_reducible refine keeps_unseen ?_ (by with_unfolding_all rfl) (by with_unfolding_all rfl))

theorem keeps_countPicked {r₀ s : State} (k : StationNo) (n : Nat) (hk : Keeps r₀ s) : Keeps r₀ (countPicked k n s) := by
  unfold countPicked
  try dsimp only
  iterate 60 try (first | with_reducible assumption | with_reducible apply keeps_changeSpindle | split | with_reducible apply keeps_with | with_reducible apply keeps_port)

theorem keeps_reportPick {r₀ s : State}  (hk : Keeps r₀ s) : Keeps r₀ (reportPick s) := by
  unfold reportPick
  try dsimp only
  iterate 60 try (first | with_reducible assumption | with_reducible apply keeps_updTask | with_reducible apply keeps_pickOne | with_reducible apply keeps_countPicked | with_reducible apply keeps_startTimer | split | with_reducible apply keeps_with | with_reducible apply keeps_port | with_reducible refine keeps_unseen ?_ (by with_unfolding_all rfl) (by with_unfolding_all rfl))

theorem keeps_reportPair {r₀ s : State}  (hk : Keeps r₀ s) : Keeps r₀ (reportPair s) := by
  unfold reportPair
  try dsimp only
  iterate 60 try (first | with_reducible assumption | with_reducible apply keeps_updTask | with_reducible apply keeps_putTask | with_reducible apply keeps_countPicked | with_reducible apply keeps_startTimer | with_reducible apply keeps_makeRejectCarry | with_reducible apply keeps_pickPair | split | with_reducible apply keeps_with | with_reducible apply keeps_port | with_reducible refine keeps_unseen ?_ (by with_unfolding_all rfl) (by with_unfolding_all rfl))

theorem keeps_reportEmpty {r₀ s : State}  (hk : Keeps r₀ s) : Keeps r₀ (reportEmpty s) := by
  unfold reportEmpty
  try dsimp only
  iterate 60 try (first | with_reducible assumption | with_reducible apply keeps_changeSpindle | with_reducible apply keeps_logEntry | with_reducible apply keeps_State_emit | with_reducible apply keeps_updTask | with_reducible apply keeps_setClaim | with_reducible apply keeps_stopTimer | with_reducible apply keeps_pickNone | split | with_reducible apply keeps_with | with_reducible apply keeps_port | with_reducible refine keeps_unseen ?_ (by with_unfolding_all rfl) (by with_unfolding_all rfl))

theorem keeps_countDropped {r₀ s : State} (k : StationNo) (n : Nat) (hk : Keeps r₀ s) : Keeps r₀ (countDropped k n s) := by
  unfold countDropped
  try dsimp only
  iterate 60 try (first | with_reducible assumption | with_reducible apply keeps_changeSpindle | with_reducible apply keeps_logEntry | with_reducible apply keeps_State_emit | split | with_reducible apply keeps_with | with_reducible apply keeps_port)

theorem keeps_countLaneGood {r₀ s : State} (r : DiscRecord) (hk : Keeps r₀ s) : Keeps r₀ (countLaneGood r s) := by
  unfold countLaneGood
  try dsimp only
  iterate 60 try (first | with_reducible assumption | with_reducible apply keeps_State_updLane | ((with_reducible intro _ h); first | exact h.counted ⟨h.1.1, h.1.2.1, h.1.2.2.1, h.1.2.2.2.1, (Counter.advance_value _ _).2 h.1.2.2.2.2.1, h.1.2.2.2.2.2⟩ ⟨h.2.1.1, h.2.1.2.1, h.2.1.2.2⟩ rfl rfl rfl | exact h | exact h.cleared rfl rfl rfl (Nat.le_refl _) (.inl rfl) | exact h.cleared rfl rfl rfl (Nat.zero_le _) (.inl rfl) | exact h.cleared rfl rfl rfl (Nat.zero_le _) (.inr rfl)) | split | with_reducible apply keeps_with | with_reducible apply keeps_port)

theorem keeps_dropGood {r₀ s : State} (i : DiscNo) (hk : Keeps r₀ s) : Keeps r₀ (dropGood i s) := by
  unfold dropGood
  try dsimp only
  iterate 60 try (first | with_reducible assumption | with_reducible apply keeps_countLaneGood | with_reducible apply keeps_updDisc | with_reducible apply keeps_testCounts | with_reducible apply keeps_logEntry | with_reducible apply keeps_changeJob | ((with_reducible intro _ h); first | exact h | exact ⟨satInc_le h.1, h.2⟩ | exact ⟨satInc_le h.1, satInc_le h.2.1, h.2.2⟩ | exact ⟨h.1, satInc_le h.2.1, h.2.2⟩ | exact ⟨h.1, h.2.1, Nat.zero_le _⟩ | exact ⟨h.1, h.2.1, Nat.min_le_left _ _⟩) | split | with_reducible apply keeps_with | with_reducible apply keeps_port)

theorem keeps_dropReject {r₀ s : State} (i : DiscNo) (hk : Keeps r₀ s) : Keeps r₀ (dropReject i s) := by
  unfold dropReject
  try dsimp only
  iterate 60 try (first | with_reducible assumption | with_reducible apply keeps_updDisc | split | with_reducible apply keeps_with | with_reducible apply keeps_port)

theorem keeps_reportDrop {r₀ s : State}  (hk : Keeps r₀ s) : Keeps r₀ (reportDrop s) := by
  unfold reportDrop
  try dsimp only
  iterate 60 try (first | with_reducible assumption | with_reducible apply keeps_countDropped | with_reducible apply keeps_dropGood | with_reducible apply keeps_dropReject | with_reducible apply keeps_logEntry | with_reducible apply keeps_updTask | with_reducible apply keeps_stopTimer | split | with_reducible apply keeps_with | with_reducible apply keeps_port | with_reducible refine keeps_unseen ?_ (by with_unfolding_all rfl) (by with_unfolding_all rfl))

theorem keeps_unloadGivenUp {r₀ s : State} (n : LaneNo) (hk : Keeps r₀ s) : Keeps r₀ (unloadGivenUp n s) := by
  unfold unloadGivenUp
  try dsimp only
  iterate 60 try (first | with_reducible assumption | with_reducible apply keeps_decideRejected | with_reducible apply keeps_endEarly | with_reducible apply keeps_enterLane | with_reducible apply keeps_State_updLane | with_reducible apply keeps_State_emit | ((with_reducible intro _ h); first | exact h | exact h.cleared rfl rfl rfl (Nat.le_refl _) (.inl rfl) | exact h.cleared rfl rfl rfl (Nat.zero_le _) (.inl rfl) | exact h.cleared rfl rfl rfl (Nat.zero_le _) (.inr rfl)) | split | with_reducible apply keeps_with | with_reducible apply keeps_port)

theorem keeps_disposeTask {r₀ s : State}  (hk : Keeps r₀ s) : Keeps r₀ (disposeTask s) := by
  unfold disposeTask
  try dsimp only
  iterate 60 try (first | with_reducible assumption | with_reducible apply keeps_makeRejectCarry | with_reducible apply keeps_decideRejected | with_reducible apply keeps_stopTimer | with_reducible apply keeps_reportPair | with_reducible apply keeps_setClaim | with_reducible apply keeps_pickNone | with_reducible refine keeps_changeArm _ ?_ rfl | with_reducible apply keeps_unloadGivenUp | split | with_reducible apply keeps_with | with_reducible apply keeps_port | with_reducible refine keeps_unseen ?_ (by with_unfolding_all rfl) (by with_unfolding_all rfl))

theorem keeps_failStarting {r₀ s : State} (hk : Keeps r₀ s) : Keeps r₀ (failStarting s) := by
  unfold failStarting
  split
  · rename_i hp
    exact keeps_setPart _ hk (.inr (by rw [hp]; decide))
  · exact hk

theorem keeps_armFail {r₀ s : State} (cause : ArmCause) (hk : Keeps r₀ s) : Keeps r₀ (armFail cause s) := by
  unfold armFail
  try dsimp only
  iterate 60 try (first | with_reducible assumption | with_reducible apply keeps_stopTimer | with_reducible refine keeps_changeArm _ ?_ rfl | with_reducible apply keeps_updTask | with_reducible apply keeps_disposeTask | with_reducible apply keeps_failStarting | with_reducible apply keeps_logEntry | split | with_reducible apply keeps_with | with_reducible apply keeps_port | with_reducible refine keeps_unseen ?_ (by with_unfolding_all rfl) (by with_unfolding_all rfl))

theorem keeps_gripAtSpindle {r₀ s : State} (sense : Sensors) (hk : Keeps r₀ s) : Keeps r₀ (gripAtSpindle sense s) := by
  unfold gripAtSpindle
  try dsimp only
  iterate 60 try (first | with_reducible assumption | with_reducible apply keeps_setGripper | with_reducible apply keeps_armFail | with_reducible apply keeps_startTimer | with_reducible apply keeps_updTask | with_reducible apply keeps_reportPick | split | with_reducible apply keeps_with | with_reducible apply keeps_port)

theorem keeps_releaseAtSpindle {r₀ s : State} (sense : Sensors) (hk : Keeps r₀ s) : Keeps r₀ (releaseAtSpindle sense s) := by
  unfold releaseAtSpindle
  try dsimp only
  iterate 60 try (first | with_reducible assumption | with_reducible apply keeps_setGripper | with_reducible apply keeps_armFail | with_reducible apply keeps_reportDrop | split)

theorem keeps_reportGrip {r₀ s : State} (c : ArmTask) (hk : Keeps r₀ s) : Keeps r₀ (reportGrip c s) := by
  unfold reportGrip
  try dsimp only
  iterate 60 try (first | with_reducible assumption | with_reducible apply keeps_setLocation | with_reducible apply keeps_setTray | with_reducible apply keeps_State_updLane | with_reducible apply keeps_updTask | ((with_reducible intro _ h); first | exact h | exact h.cleared rfl rfl rfl (Nat.le_refl _) (.inl rfl) | exact h.cleared rfl rfl rfl (Nat.zero_le _) (.inl rfl) | exact h.cleared rfl rfl rfl (Nat.zero_le _) (.inr rfl)) | split | with_reducible apply keeps_with | with_reducible apply keeps_port)

theorem keeps_reportGone {r₀ s : State} (c : ArmTask) (hk : Keeps r₀ s) : Keeps r₀ (reportGone c s) := by
  unfold reportGone
  try dsimp only
  iterate 60 try (first | with_reducible assumption | with_reducible apply keeps_updTask | with_reducible apply keeps_setTray | split | with_reducible apply keeps_with | with_reducible apply keeps_port)

theorem keeps_sweepFindsNone {r₀ s : State}  (hk : Keeps r₀ s) : Keeps r₀ (sweepFindsNone s) := by
  unfold sweepFindsNone
  try dsimp only
  iterate 60 try (first | with_reducible assumption | with_reducible apply keeps_updTask | with_reducible apply keeps_setGripper | with_reducible apply keeps_State_draw | split | with_reducible apply keeps_with | with_reducible apply keeps_port)

theorem keeps_gripAtTray {r₀ s : State} (sense : Sensors) (hk : Keeps r₀ s) : Keeps r₀ (gripAtTray sense s) := by
  unfold gripAtTray
  try dsimp only
  iterate 60 try (first | with_reducible assumption | with_reducible apply keeps_setGripper | with_reducible apply keeps_reportGrip | with_reducible apply keeps_sweepFindsNone | with_reducible apply keeps_reportGone | with_reducible apply keeps_armFail | split | with_reducible apply keeps_with | with_reducible apply keeps_port | with_reducible refine keeps_unseen ?_ (by with_unfolding_all rfl) (by with_unfolding_all rfl))

theorem keeps_reportPlaced {r₀ s : State} (c : ArmTask) (i : DiscNo) (hk : Keeps r₀ s) : Keeps r₀ (reportPlaced c i s) := by
  unfold reportPlaced
  try dsimp only
  iterate 60 try (first | with_reducible assumption | with_reducible apply keeps_changeEntry | with_reducible apply keeps_updTask | with_reducible apply keeps_setLocation | with_reducible apply keeps_State_updLane | with_reducible apply keeps_printerPlaced | ((with_reducible intro _ h); first | exact h | exact h.cleared rfl rfl rfl (Nat.le_refl _) (.inl rfl) | exact h.cleared rfl rfl rfl (Nat.zero_le _) (.inl rfl) | exact h.cleared rfl rfl rfl (Nat.zero_le _) (.inr rfl)) | split | with_reducible apply keeps_with | with_reducible apply keeps_port)

theorem keeps_releaseAtTray {r₀ s : State} (sense : Sensors) (hk : Keeps r₀ s) : Keeps r₀ (releaseAtTray sense s) := by
  unfold releaseAtTray
  try dsimp only
  iterate 60 try (first | with_reducible assumption | with_reducible apply keeps_setGripper | with_reducible apply keeps_armFail | with_reducible apply keeps_reportPlaced | split | with_reducible apply keeps_with | with_reducible apply keeps_port | with_reducible refine keeps_unseen ?_ (by with_unfolding_all rfl) (by with_unfolding_all rfl))

theorem keeps_trayOffered {r₀ s : State} (k : StationNo) (present : Bool) (hk : Keeps r₀ s) : Keeps r₀ (trayOffered k present s) := by
  unfold trayOffered
  try dsimp only
  iterate 60 try (first | with_reducible assumption | with_reducible apply keeps_armFail | with_reducible apply keeps_setTray | with_reducible apply keeps_endAtOnce | with_reducible apply keeps_startTimer | with_reducible apply keeps_setPhase | with_reducible apply keeps_openForGrip | with_reducible apply keeps_State_draw | split | with_reducible apply keeps_with | with_reducible apply keeps_port | with_reducible refine keeps_unseen ?_ (by with_unfolding_all rfl) (by with_unfolding_all rfl))

theorem keeps_armPresented {r₀ s : State}  (hk : Keeps r₀ s) : Keeps r₀ (armPresented s) := by
  unfold armPresented
  try dsimp only
  iterate 60 try (first | with_reducible assumption | with_reducible apply keeps_trayOffered | split)

theorem keeps_armPresentLost {r₀ s : State}  (hk : Keeps r₀ s) : Keeps r₀ (armPresentLost s) := by
  unfold armPresentLost
  try dsimp only
  iterate 60 try (first | with_reducible assumption | with_reducible apply keeps_endTask | split | with_reducible apply keeps_with | with_reducible apply keeps_port | with_reducible refine keeps_unseen ?_ (by with_unfolding_all rfl) (by with_unfolding_all rfl))

theorem keeps_sweptTray {r₀ s : State} (c : ArmTask) (hk : Keeps r₀ s) : Keeps r₀ (sweptTray c s) := by
  unfold sweptTray
  try dsimp only
  iterate 60 try (first | with_reducible assumption | with_reducible apply keeps_setTray | split)

theorem keeps_afterRise {r₀ s : State} (sense : Sensors) (hk : Keeps r₀ s) : Keeps r₀ (afterRise sense s) := by
  unfold afterRise
  try dsimp only
  iterate 60 try (first | with_reducible assumption | with_reducible apply keeps_tellClosed | with_reducible apply keeps_stopTimer | with_reducible apply keeps_endTask | with_reducible apply keeps_sweptTray | with_reducible apply keeps_turnToReject | with_reducible apply keeps_startApproach | split | with_reducible apply keeps_with | with_reducible apply keeps_port | with_reducible refine keeps_unseen ?_ (by with_unfolding_all rfl) (by with_unfolding_all rfl))

theorem keeps_liftDone {r₀ s : State} (toDest : Bool) (c : ArmTask) (sense : Sensors)
    (hk : Keeps r₀ s) : Keeps r₀ (liftDone toDest c sense s) := by
  unfold liftDone
  try dsimp only
  iterate 60 try (first | with_reducible assumption | with_reducible apply keeps_setLift | with_reducible apply keeps_endTask | with_reducible apply keeps_showPositions | with_reducible apply keeps_setPhase | with_reducible apply keeps_arriveAt | split)

theorem keeps_swingDone {r₀ s : State} (toDest : Bool) (c : ArmTask) (sense : Sensors)
    (hk : Keeps r₀ s) : Keeps r₀ (swingDone toDest c sense s) := by
  unfold swingDone
  try dsimp only
  iterate 60 try (first | with_reducible assumption | with_reducible apply keeps_setSwing | with_reducible apply keeps_endTask | with_reducible apply keeps_showPositions | with_reducible apply keeps_arriveAt | split)

theorem keeps_descentDone {r₀ s : State} (toDest : Bool) (c : ArmTask) (sense : Sensors)
    (hk : Keeps r₀ s) : Keeps r₀ (descentDone toDest c sense s) := by
  unfold descentDone
  try dsimp only
  iterate 60 try (first | with_reducible assumption | with_reducible apply keeps_setLift | with_reducible apply keeps_endAtOnce | with_reducible apply keeps_setPhase | with_reducible apply keeps_releaseAtTray | with_reducible apply keeps_gripAtTray | split)

theorem keeps_riseDone {r₀ s : State} (sense : Sensors) (hk : Keeps r₀ s) : Keeps r₀ (riseDone sense s) := by
  unfold riseDone
  try dsimp only
  iterate 60 try (first | with_reducible assumption | with_reducible apply keeps_afterRise | with_reducible apply keeps_showPositions | with_reducible apply keeps_setLift | split)

theorem keeps_stepTest {r₀ s : State}  (hk : Keeps r₀ s) : Keeps r₀ (stepTest s) := by
  unfold stepTest
  try dsimp only
  iterate 60 try (first | with_reducible assumption | with_reducible apply keeps_descentDone | with_reducible apply keeps_State_draw | with_reducible apply keeps_riseDone | split | with_reducible apply keeps_with | with_reducible apply keeps_port | with_reducible refine keeps_unseen ?_ (by with_unfolding_all rfl) (by with_unfolding_all rfl))

theorem keeps_takeTask {r₀ s : State} (t : Task) (cargo : Option Cargo) (hk : Keeps r₀ s) : Keeps r₀ (takeTask t cargo s) := by
  unfold takeTask
  try dsimp only
  iterate 60 try (first | with_reducible assumption | with_reducible refine keeps_changeArm _ ?_ rfl | split | with_reducible apply keeps_with | with_reducible apply keeps_port)

theorem keeps_beginTask {r₀ s : State} (t : Task) (hk : Keeps r₀ s) : Keeps r₀ (beginTask t s) := by
  unfold beginTask
  try dsimp only
  iterate 60 try (first | with_reducible assumption | with_reducible apply keeps_beginApproach | with_reducible apply keeps_takeTask | with_reducible apply keeps_setClaim | split)

theorem keeps_idleArm {r₀ s : State}  (hk : Keeps r₀ s) : Keeps r₀ (idleArm s) := by
  unfold idleArm
  try dsimp only
  iterate 60 try (first | with_reducible assumption | with_reducible apply keeps_beginApproach | with_reducible apply keeps_takeTask | with_reducible apply keeps_beginTask | split | with_reducible apply keeps_with | with_reducible apply keeps_port | with_reducible refine keeps_unseen ?_ (by with_unfolding_all rfl) (by with_unfolding_all rfl))

theorem keeps_armSelect {r₀ s : State}  (hk : Keeps r₀ s) : Keeps r₀ (armSelect s) := by
  unfold armSelect
  try dsimp only
  iterate 60 try (first | with_reducible assumption | with_reducible apply keeps_idleArm | with_reducible apply keeps_beginApproach | split | with_reducible apply keeps_with | with_reducible apply keeps_port | with_reducible refine keeps_unseen ?_ (by with_unfolding_all rfl) (by with_unfolding_all rfl))

theorem keeps_stopTest {r₀ s : State} (hk : Keeps r₀ s) : Keeps r₀ (stopTest s) := by
  unfold stopTest
  split
  · exact keeps_putHeader ⟨hk.base, hk.size, hk.enables, hk.pending, hk.bridges, hk.cause, hk.time, hk.logs, hk.updates, hk.fits,
      hk.memories, fun _ => .inl rfl⟩
  · exact hk

theorem keeps_beginHoming {r₀ s : State}  (hk : Keeps r₀ s) : Keeps r₀ (beginHoming s) := by
  unfold beginHoming
  try dsimp only
  iterate 60 try (first | with_reducible assumption | with_reducible apply keeps_startTimer | with_reducible refine keeps_changeArm _ ?_ rfl | split | with_reducible apply keeps_with | with_reducible apply keeps_port)

theorem keeps_resumeTask {r₀ s : State} (sense : Sensors) (hk : Keeps r₀ s) : Keeps r₀ (resumeTask sense s) := by
  unfold resumeTask
  try dsimp only
  iterate 60 try (first | with_reducible assumption | with_reducible apply keeps_armIdle | with_reducible refine keeps_changeArm _ ?_ rfl | with_reducible apply keeps_endTask | with_reducible apply keeps_sweptTray | with_reducible apply keeps_tellClosed | with_reducible apply keeps_startApproach | with_reducible apply keeps_makeRejectCarry | with_reducible apply keeps_startTimer | with_reducible apply keeps_setPhase | split | with_reducible apply keeps_with | with_reducible apply keeps_port | with_reducible refine keeps_unseen ?_ (by with_unfolding_all rfl) (by with_unfolding_all rfl))

theorem keeps_beginInventory {r₀ s : State} (n : LaneNo) (hk : Keeps r₀ s) : Keeps r₀ (beginInventory s n) := by
  unfold beginInventory
  try dsimp only
  iterate 60 try (first | with_reducible assumption | with_reducible apply keeps_setWaits | with_reducible apply keeps_sendTray | with_reducible apply keeps_faultLane | split | with_reducible apply keeps_with | with_reducible apply keeps_port)

theorem keeps_beginSweep {r₀ s : State}  (hk : Keeps r₀ s) : Keeps r₀ (beginSweep s) := by
  unfold beginSweep
  try dsimp only
  iterate 60 try (first | with_reducible assumption | with_reducible apply keeps_armIdle | with_reducible apply keeps_beginInventory | (apply keeps_foldl; intro t a ht; try dsimp only) | split | with_reducible apply keeps_with | with_reducible apply keeps_port | with_reducible refine keeps_unseen ?_ (by with_unfolding_all rfl) (by with_unfolding_all rfl))

theorem keeps_sweepTest {r₀ s : State} (hk : Keeps r₀ s) : Keeps r₀ (sweepTest s) := by
  unfold sweepTest
  split
  · rename_i hp
    refine keeps_State_emit _ (keeps_State_emit _ (keeps_setPart _ (keeps_unseen hk rfl rfl) (.inr ?_)))
    intro h
    exact absurd (hp.1.symm.trans h) (by decide)
  · exact hk

theorem keeps_stopArm {r₀ s : State}  (hk : Keeps r₀ s) : Keeps r₀ (stopArm s) := by
  unfold stopArm
  try dsimp only
  iterate 60 try (first | with_reducible assumption | with_reducible apply keeps_stopTimer | with_reducible refine keeps_changeArm _ ?_ rfl | split | with_reducible apply keeps_with | with_reducible apply keeps_port)

end Sys2Proof.Machine
end

