-- ==== Sys2Proof/Laws/KeepsDrive.lean ====
section
/-! SUPPORT. What the part keeps (`Keeps`): the same for the drive messages, the tray exchanges and the reports within a step. -/

namespace Sys2Proof.Machine

theorem keeps_enterProbing {r₀ s : State} (n : LaneNo) (hk : Keeps r₀ s) : Keeps r₀ (enterProbing n s) := by
  unfold enterProbing
  try dsimp only
  iterate 60 try (first | with_reducible assumption | with_reducible apply keeps_setWaits | with_reducible apply keeps_sendMsg | with_reducible apply keeps_enterLane | split | with_reducible apply keeps_with | with_reducible apply keeps_port)

theorem keeps_probeFail {r₀ s : State} (n : LaneNo) (why : RejectReason) (code : Nat)
    (hk : Keeps r₀ s) : Keeps r₀ (probeFail n why code s) := by
  unfold probeFail
  try dsimp only
  iterate 60 try (first | with_reducible assumption | with_reducible apply keeps_probeRejected | with_reducible apply keeps_laneReject | split | with_reducible apply keeps_with | with_reducible apply keeps_port)

theorem keeps_askSpeed {r₀ s : State} (n : LaneNo) (rate : Nat) (why : SpeedPurpose)
    (hk : Keeps r₀ s) : Keeps r₀ (askSpeed n rate why s) := by
  unfold askSpeed
  try dsimp only
  iterate 60 try (first | with_reducible assumption | with_reducible apply keeps_sendMsg | with_reducible apply keeps_State_updLane | ((with_reducible intro _ h); first | exact h | exact h.cleared rfl rfl rfl (Nat.le_refl _) (.inl rfl) | exact h.cleared rfl rfl rfl (Nat.zero_le _) (.inl rfl) | exact h.cleared rfl rfl rfl (Nat.zero_le _) (.inr rfl)) | split | with_reducible apply keeps_with | with_reducible apply keeps_port)

theorem keeps_enterNegotiating {r₀ s : State} (n : LaneNo) (r : JobRecord) (hk : Keeps r₀ s) : Keeps r₀ (enterNegotiating n r s) := by
  unfold enterNegotiating
  try dsimp only
  iterate 60 try (first | with_reducible assumption | with_reducible apply keeps_enterLane | with_reducible apply keeps_State_updLane | with_reducible apply keeps_askSpeed | with_reducible apply keeps_laneReject | ((with_reducible intro _ h); first | exact h | exact h.cleared rfl rfl rfl (Nat.le_refl _) (.inl rfl) | exact h.cleared rfl rfl rfl (Nat.zero_le _) (.inl rfl) | exact h.cleared rfl rfl rfl (Nat.zero_le _) (.inr rfl)) | split | with_reducible apply keeps_with | with_reducible apply keeps_port)

theorem keeps_driveMedia {r₀ s : State} (n : LaneNo) (mediaClass : Nat) (blank : Bool) (capacity : Nat) (rates : List (BitVec 16))
    (hk : Keeps r₀ s) : Keeps r₀ (driveMedia n mediaClass blank capacity rates s) := by
  unfold driveMedia
  try dsimp only
  iterate 60 try (first | with_reducible assumption | with_reducible apply keeps_State_updLane | with_reducible apply keeps_probeFail | with_reducible apply keeps_enterNegotiating | with_reducible apply keeps_probePassed | with_reducible apply keeps_strayMessage | ((with_reducible intro _ h); first | exact h | exact h.cleared rfl rfl rfl (Nat.le_refl _) (.inl rfl) | exact h.cleared rfl rfl rfl (Nat.zero_le _) (.inl rfl) | exact h.cleared rfl rfl rfl (Nat.zero_le _) (.inr rfl)) | split | with_reducible apply keeps_with | with_reducible apply keeps_port)

theorem keeps_logSpeed {r₀ s : State} (n : LaneNo) (old new : Nat) (hk : Keeps r₀ s) : Keeps r₀ (logSpeed n old new s) := by
  unfold logSpeed
  try dsimp only
  iterate 60 try (first | with_reducible assumption | with_reducible apply keeps_logEntry | split)

theorem keeps_takeWritePins {r s : State} (n : LaneNo) (j : SlotNo) (ps : List Nat) (h : Keeps r s) :
    Keeps r (takeWritePins n j ps s) := by
  induction ps generalizing s with
  | nil => exact h
  | cons p rest ih =>
    unfold takeWritePins
    split
    · exact keeps_holdJobFor _ _ (keeps_laneReject _ _ _ _ h)
    · exact ih (keeps_pinPage _ _ _ _ h)

theorem keeps_enterWriting {r₀ s : State} (n : LaneNo) (j : SlotNo) (sectors : Nat)
    (hk : Keeps r₀ s) : Keeps r₀ (enterWriting n j sectors s) := by
  unfold enterWriting
  try dsimp only
  iterate 60 try (first | with_reducible assumption | with_reducible apply keeps_enterLane | with_reducible apply keeps_State_updLane | with_reducible apply keeps_takeWritePins | with_reducible apply keeps_setWaits | with_reducible apply keeps_sendMsg | ((with_reducible intro _ h); first | exact h | exact h.cleared rfl rfl rfl (Nat.le_refl _) (.inl rfl) | exact h.cleared rfl rfl rfl (Nat.zero_le _) (.inl rfl) | exact h.cleared rfl rfl rfl (Nat.zero_le _) (.inr rfl)) | split | with_reducible apply keeps_with | with_reducible apply keeps_port)

theorem keeps_acceptSpeed {r₀ s : State} (n : LaneNo) (q : SpeedReq) (hk : Keeps r₀ s) : Keeps r₀ (acceptSpeed n q s) := by
  unfold acceptSpeed
  try dsimp only
  iterate 60 try (first | with_reducible assumption | with_reducible apply keeps_State_updLane | with_reducible apply keeps_enterWriting | with_reducible apply keeps_logSpeed | with_reducible apply keeps_writeLane | ((with_reducible intro _ h); first | exact h.counted ⟨h.1.1, h.1.2.1, (Counter.advance_value _ _).2 h.1.2.2.1, h.1.2.2.2.1, h.1.2.2.2.2.1, h.1.2.2.2.2.2⟩ ⟨h.2.1.1, satInc_le h.2.1.2.1, h.2.1.2.2⟩ rfl rfl rfl | exact h.counted ⟨h.1.1, h.1.2.1, h.1.2.2.1, (Counter.advance_value _ _).2 h.1.2.2.2.1, h.1.2.2.2.2.1, h.1.2.2.2.2.2⟩ ⟨h.2.1.1, h.2.1.2.1, satInc_le h.2.1.2.2⟩ rfl rfl rfl | exact h | exact h.cleared rfl rfl rfl (Nat.le_refl _) (.inl rfl) | exact h.cleared rfl rfl rfl (Nat.zero_le _) (.inl rfl) | exact h.cleared rfl rfl rfl (Nat.zero_le _) (.inr rfl)) | split | with_reducible apply keeps_with | with_reducible apply keeps_port)

theorem keeps_refuseSpeed {r₀ s : State} (n : LaneNo) (q : SpeedReq) (hk : Keeps r₀ s) : Keeps r₀ (refuseSpeed n q s) := by
  unfold refuseSpeed
  try dsimp only
  iterate 60 try (first | with_reducible assumption | with_reducible apply keeps_State_updLane | with_reducible apply keeps_askSpeed | with_reducible apply keeps_laneReject | with_reducible apply keeps_logEntry | ((with_reducible intro _ h); first | exact h | exact h.cleared rfl rfl rfl (Nat.le_refl _) (.inl rfl) | exact h.cleared rfl rfl rfl (Nat.zero_le _) (.inl rfl) | exact h.cleared rfl rfl rfl (Nat.zero_le _) (.inr rfl)) | split | with_reducible apply keeps_with | with_reducible apply keeps_port)

theorem keeps_driveSpeedAck {r₀ s : State} (n : LaneNo) (rate : Nat) (hk : Keeps r₀ s) : Keeps r₀ (driveSpeedAck n rate s) := by
  unfold driveSpeedAck
  try dsimp only
  iterate 60 try (first | with_reducible assumption | with_reducible apply keeps_acceptSpeed | with_reducible apply keeps_strayMessage | split | with_reducible apply keeps_with | with_reducible apply keeps_port)

theorem keeps_driveSpeedRefused {r₀ s : State} (n : LaneNo) (rate : Nat) (hk : Keeps r₀ s) : Keeps r₀ (driveSpeedRefused n rate s) := by
  unfold driveSpeedRefused
  try dsimp only
  iterate 60 try (first | with_reducible assumption | with_reducible apply keeps_refuseSpeed | with_reducible apply keeps_strayMessage | split | with_reducible apply keeps_with | with_reducible apply keeps_port)

theorem keeps_driveOpenAck {r₀ s : State} (n : LaneNo) (hk : Keeps r₀ s) : Keeps r₀ (driveOpenAck n s) := by
  unfold driveOpenAck
  try dsimp only
  iterate 60 try (first | with_reducible assumption | with_reducible apply keeps_updDisc | with_reducible apply keeps_State_updLane | with_reducible apply keeps_strayMessage | ((with_reducible intro _ h); first | exact h | exact h.cleared rfl rfl rfl (Nat.le_refl _) (.inl rfl) | exact h.cleared rfl rfl rfl (Nat.zero_le _) (.inl rfl) | exact h.cleared rfl rfl rfl (Nat.zero_le _) (.inr rfl)) | split | with_reducible apply keeps_with | with_reducible apply keeps_port)

theorem keeps_driveCredit {r₀ s : State} (n : LaneNo) (count : Nat) (hk : Keeps r₀ s) : Keeps r₀ (driveCredit n count s) := by
  unfold driveCredit
  try dsimp only
  iterate 60 try (first | with_reducible assumption | with_reducible apply keeps_strayMessage | with_reducible apply keeps_State_updLane | ((with_reducible intro _ h); first | exact ⟨h.1, h.2.1, Nat.min_le_left _ _, h.2.2.2⟩ | exact h | exact h.cleared rfl rfl rfl (Nat.le_refl _) (.inl rfl) | exact h.cleared rfl rfl rfl (Nat.zero_le _) (.inl rfl) | exact h.cleared rfl rfl rfl (Nat.zero_le _) (.inr rfl)) | split | with_reducible apply keeps_with | with_reducible apply keeps_port)

theorem keeps_driveGap {r₀ s : State} (n : LaneNo) (hk : Keeps r₀ s) : Keeps r₀ (driveGap n s) := by
  unfold driveGap
  try dsimp only
  iterate 60 try (first | with_reducible assumption | with_reducible apply keeps_State_updLane | with_reducible apply keeps_laneReject | with_reducible apply keeps_strayMessage | ((with_reducible intro _ h); first | exact h.counted ⟨h.1.1, (Counter.advance_value _ _).2 h.1.2.1, h.1.2.2.1, h.1.2.2.2.1, h.1.2.2.2.2.1, h.1.2.2.2.2.2⟩ ⟨satInc_le h.2.1.1, h.2.1.2.1, h.2.1.2.2⟩ rfl rfl rfl | exact h | exact h.cleared rfl rfl rfl (Nat.le_refl _) (.inl rfl) | exact h.cleared rfl rfl rfl (Nat.zero_le _) (.inl rfl) | exact h.cleared rfl rfl rfl (Nat.zero_le _) (.inr rfl)) | split | with_reducible apply keeps_with | with_reducible apply keeps_port)

theorem keeps_movePast {r₀ s : State} (n : LaneNo) (j : SlotNo) (page sectors : Nat)
    (hk : Keeps r₀ s) : Keeps r₀ (movePast n j page sectors s) := by
  unfold movePast
  try dsimp only
  iterate 60 try (first | with_reducible assumption | with_reducible apply keeps_unpinWrite | with_reducible apply keeps_takeWritePins | split)

theorem keeps_copySector {r₀ s : State} (n : LaneNo) (hk : Keeps r₀ s) : Keeps r₀ (copySector n s) := by
  unfold copySector
  try dsimp only
  iterate 60 try (first | with_reducible assumption | with_reducible apply keeps_State_updLane | with_reducible apply keeps_movePast | ((with_reducible intro _ h); first | exact h | exact h.cleared rfl rfl rfl (Nat.le_refl _) (.inl rfl) | exact h.cleared rfl rfl rfl (Nat.zero_le _) (.inl rfl) | exact h.cleared rfl rfl rfl (Nat.zero_le _) (.inr rfl)) | split | with_reducible apply keeps_with | with_reducible apply keeps_port)

theorem keeps_paceReview {r₀ s : State} (n : LaneNo) (r : JobRecord) (hk : Keeps r₀ s) : Keeps r₀ (paceReview n r s) := by
  unfold paceReview
  try dsimp only
  iterate 60 try (first | with_reducible assumption | with_reducible apply keeps_State_updLane | with_reducible apply keeps_askSpeed | with_reducible apply keeps_writeLane | ((with_reducible intro _ h); first | exact h | exact h.cleared rfl rfl rfl (Nat.le_refl _) (.inl rfl) | exact h.cleared rfl rfl rfl (Nat.zero_le _) (.inl rfl) | exact h.cleared rfl rfl rfl (Nat.zero_le _) (.inr rfl)) | split | with_reducible apply keeps_with | with_reducible apply keeps_port)

theorem keeps_sendClose {r₀ s : State} (n : LaneNo) (hk : Keeps r₀ s) : Keeps r₀ (sendClose n s) := by
  unfold sendClose
  try dsimp only
  iterate 60 try (first | with_reducible assumption | with_reducible apply keeps_setWaits | with_reducible apply keeps_enterLane | with_reducible apply keeps_sendMsg | with_reducible apply keeps_State_updLane | ((with_reducible intro _ h); first | exact h | exact h.cleared rfl rfl rfl (Nat.le_refl _) (.inl rfl) | exact h.cleared rfl rfl rfl (Nat.zero_le _) (.inl rfl) | exact h.cleared rfl rfl rfl (Nat.zero_le _) (.inr rfl)) | split | with_reducible apply keeps_with | with_reducible apply keeps_port)

theorem keeps_sendData {r₀ s : State} (n : LaneNo) (hk : Keeps r₀ s) : Keeps r₀ (sendData n s) := by
  unfold sendData
  try dsimp only
  iterate 60 try (first | with_reducible assumption | with_reducible apply keeps_sendMsg | with_reducible apply keeps_State_updLane | with_reducible apply keeps_paceReview | with_reducible apply keeps_sendClose | ((with_reducible intro _ h); first | exact ⟨⟨(Counter.advance_value _ _).2 h.1.1, h.1.2.1, h.1.2.2.1, h.1.2.2.2.1, h.1.2.2.2.2.1, h.1.2.2.2.2.2⟩, h.2.1, Nat.le_trans (Nat.sub_le _ _) h.2.2.1, h.2.2.2⟩ | exact h | exact h.cleared rfl rfl rfl (Nat.le_refl _) (.inl rfl) | exact h.cleared rfl rfl rfl (Nat.zero_le _) (.inl rfl) | exact h.cleared rfl rfl rfl (Nat.zero_le _) (.inr rfl)) | split | with_reducible apply keeps_with | with_reducible apply keeps_port)

theorem keeps_driveClosed {r₀ s : State} (n : LaneNo) (hk : Keeps r₀ s) : Keeps r₀ (driveClosed n s) := by
  unfold driveClosed
  try dsimp only
  iterate 60 try (first | with_reducible assumption | with_reducible apply keeps_State_updLane | with_reducible apply keeps_updDisc | with_reducible apply keeps_writeLane | with_reducible apply keeps_requestUnload | with_reducible apply keeps_enterVerifying | with_reducible apply keeps_strayMessage | ((with_reducible intro _ h); first | exact ⟨h.1, h.2.1, h.2.2.1, Nat.min_le_left _ _, h.2.2.2.2⟩ | exact ⟨h.1, h.2.1, h.2.2.1, Nat.zero_le _, h.2.2.2.2⟩ | exact h | exact h.cleared rfl rfl rfl (Nat.le_refl _) (.inl rfl) | exact h.cleared rfl rfl rfl (Nat.zero_le _) (.inl rfl) | exact h.cleared rfl rfl rfl (Nat.zero_le _) (.inr rfl)) | split | with_reducible apply keeps_with | with_reducible apply keeps_port)

theorem keeps_mediaExpired {r₀ s : State} (n : LaneNo) (hk : Keeps r₀ s) : Keeps r₀ (mediaExpired n s) := by
  unfold mediaExpired
  try dsimp only
  iterate 60 try (first | with_reducible assumption | with_reducible apply keeps_probeFail | with_reducible apply keeps_setWaits | with_reducible apply keeps_State_advanceTo | split | with_reducible apply keeps_with | with_reducible apply keeps_port)

theorem keeps_speedExpired {r₀ s : State} (n : LaneNo) (hk : Keeps r₀ s) : Keeps r₀ (speedExpired n s) := by
  unfold speedExpired
  try dsimp only
  iterate 60 try (first | with_reducible assumption | with_reducible apply keeps_refuseSpeed | with_reducible apply keeps_State_advanceTo | split | with_reducible apply keeps_with | with_reducible apply keeps_port)

theorem keeps_openExpired {r₀ s : State} (n : LaneNo) (hk : Keeps r₀ s) : Keeps r₀ (openExpired n s) := by
  unfold openExpired
  try dsimp only
  iterate 60 try (first | with_reducible assumption | with_reducible apply keeps_laneReject | with_reducible apply keeps_State_advanceTo | split | with_reducible apply keeps_with | with_reducible apply keeps_port)

theorem keeps_starvationExpired {r₀ s : State} (n : LaneNo) (hk : Keeps r₀ s) : Keeps r₀ (starvationExpired n s) := by
  unfold starvationExpired
  try dsimp only
  iterate 60 try (first | with_reducible assumption | with_reducible apply keeps_laneReject | with_reducible apply keeps_State_advanceTo | split | with_reducible apply keeps_with | with_reducible apply keeps_port)

theorem keeps_closedExpired {r₀ s : State} (n : LaneNo) (hk : Keeps r₀ s) : Keeps r₀ (closedExpired n s) := by
  unfold closedExpired
  try dsimp only
  iterate 60 try (first | with_reducible assumption | with_reducible apply keeps_laneReject | with_reducible apply keeps_State_advanceTo | split | with_reducible apply keeps_with | with_reducible apply keeps_port)

theorem keeps_blockRead {r₀ s : State} (n : LaneNo) (r : JobRecord) (d : DiscRef)
    (hk : Keeps r₀ s) : Keeps r₀ (blockRead n r d s) := by
  unfold blockRead
  try dsimp only
  iterate 60 try (first | with_reducible assumption | with_reducible apply keeps_setWaits | with_reducible apply keeps_queueCompare | with_reducible apply keeps_nextBlock | split | with_reducible apply keeps_with | with_reducible apply keeps_port)

theorem keeps_sectorStands {r₀ s : State} (n : LaneNo) (r : JobRecord) (d : DiscRef)
    (hk : Keeps r₀ s) : Keeps r₀ (sectorStands n r d s) := by
  unfold sectorStands
  try dsimp only
  iterate 60 try (first | with_reducible assumption | with_reducible apply keeps_blockRead | split)

theorem keeps_driveRdata {r₀ s : State} (n : LaneNo) (sector : Nat) (status : SectorStatus) (bs : List Byte)
    (hk : Keeps r₀ s) : Keeps r₀ (driveRdata n sector status bs s) := by
  unfold driveRdata
  try dsimp only
  iterate 60 try (first | with_reducible assumption | with_reducible apply keeps_State_updLane | with_reducible apply keeps_sectorStands | with_reducible apply keeps_updVerify | with_reducible apply keeps_verifyStop | with_reducible apply keeps_strayMessage | ((with_reducible intro _ h); first | exact h | exact h.cleared rfl rfl rfl (Nat.le_refl _) (.inl rfl) | exact h.cleared rfl rfl rfl (Nat.zero_le _) (.inl rfl) | exact h.cleared rfl rfl rfl (Nat.zero_le _) (.inr rfl)) | split | with_reducible apply keeps_with | with_reducible apply keeps_port)

theorem keeps_readExpired {r₀ s : State} (n : LaneNo) (hk : Keeps r₀ s) : Keeps r₀ (readExpired n s) := by
  unfold readExpired
  try dsimp only
  iterate 60 try (first | with_reducible assumption | with_reducible apply keeps_laneReject | with_reducible apply keeps_State_advanceTo | split | with_reducible apply keeps_with | with_reducible apply keeps_port)

theorem keeps_faultInLoad {r₀ s : State} (n : LaneNo) (code : Nat) (hk : Keeps r₀ s) : Keeps r₀ (faultInLoad n code s) := by
  unfold faultInLoad
  try dsimp only
  iterate 60 try (first | with_reducible assumption | with_reducible apply keeps_laneReject | with_reducible apply keeps_State_updLane | ((with_reducible intro _ h); first | exact h | exact h.cleared rfl rfl rfl (Nat.le_refl _) (.inl rfl) | exact h.cleared rfl rfl rfl (Nat.zero_le _) (.inl rfl) | exact h.cleared rfl rfl rfl (Nat.zero_le _) (.inr rfl)) | split | with_reducible apply keeps_with | with_reducible apply keeps_port)

theorem keeps_driveFault {r₀ s : State} (n : LaneNo) (code : Nat) (hk : Keeps r₀ s) : Keeps r₀ (driveFault n code s) := by
  unfold driveFault
  try dsimp only
  iterate 60 try (first | with_reducible assumption | with_reducible apply keeps_probeFail | with_reducible apply keeps_faultInLoad | with_reducible apply keeps_laneReject | with_reducible apply keeps_strayMessage | split | with_reducible apply keeps_with | with_reducible apply keeps_port)

theorem keeps_endDiscarded {r₀ s : State} (u : UnitNo) (n : LaneNo) (hk : Keeps r₀ s) : Keeps r₀ (endDiscarded u n s) := by
  unfold endDiscarded
  try dsimp only
  iterate 60 try (first | with_reducible assumption | with_reducible apply keeps_unpinKind | with_reducible apply keeps_freeUnit | with_reducible apply keeps_State_updLane | with_reducible apply keeps_laneRest | ((with_reducible intro _ h); first | exact h | exact h.cleared rfl rfl rfl (Nat.le_refl _) (.inl rfl) | exact h.cleared rfl rfl rfl (Nat.zero_le _) (.inl rfl) | exact h.cleared rfl rfl rfl (Nat.zero_le _) (.inr rfl)) | split | with_reducible apply keeps_with | with_reducible apply keeps_port)

theorem keeps_compareEnds {r₀ s : State} (u : UnitNo) (hk : Keeps r₀ s) : Keeps r₀ (compareEnds u s) := by
  unfold compareEnds
  try dsimp only
  iterate 60 try (first | with_reducible assumption | with_reducible apply keeps_endDiscarded | with_reducible apply keeps_updVerify | with_reducible apply keeps_unpinKind | with_reducible apply keeps_freeUnit | with_reducible apply keeps_nextBlock | with_reducible apply keeps_State_updLane | with_reducible apply keeps_verifyStop | ((with_reducible intro _ h); first | exact h | exact h.cleared rfl rfl rfl (Nat.le_refl _) (.inl rfl) | exact h.cleared rfl rfl rfl (Nat.zero_le _) (.inl rfl) | exact h.cleared rfl rfl rfl (Nat.zero_le _) (.inr rfl)) | split | with_reducible apply keeps_with | with_reducible apply keeps_port)

theorem keeps_diagCompareEnds {r₀ s : State} (u : UnitNo) (faulty : List Nat) (hk : Keeps r₀ s) : Keeps r₀ (diagCompareEnds u faulty s) := by
  unfold diagCompareEnds
  try dsimp only
  iterate 60 try (first | with_reducible assumption | with_reducible apply keeps_diagBlockDone | with_reducible apply keeps_updVerify | with_reducible apply keeps_freeUnit | split | with_reducible apply keeps_with | with_reducible apply keeps_port)

theorem keeps_withdrawUnload {r₀ s : State} (n : LaneNo) (hk : Keeps r₀ s) : Keeps r₀ (withdrawUnload n s) := by
  unfold withdrawUnload
  try dsimp only
  iterate 60 try (first | with_reducible assumption | with_reducible apply keeps_withdrawTask | split | with_reducible apply keeps_with | with_reducible apply keeps_port)

theorem keeps_tellTrayLost {r₀ s : State} (n : LaneNo) (hk : Keeps r₀ s) : Keeps r₀ (tellTrayLost n s) := by
  unfold tellTrayLost
  try dsimp only
  iterate 60 try (first | with_reducible assumption | with_reducible apply keeps_withdrawUnload | with_reducible apply keeps_giveUpUnload | split | with_reducible apply keeps_with | with_reducible apply keeps_port)

theorem keeps_queryFailed {r₀ s : State} (n : LaneNo) (cause : LaneCause) (hk : Keeps r₀ s) : Keeps r₀ (queryFailed n cause s) := by
  unfold queryFailed
  try dsimp only
  iterate 60 try (first | with_reducible assumption | with_reducible apply keeps_faultLane | split)

theorem keeps_staleAnswered {r₀ s : State} (n : LaneNo) (thenInventory : Bool)
    (hk : Keeps r₀ s) : Keeps r₀ (staleAnswered n thenInventory s) := by
  unfold staleAnswered
  try dsimp only
  iterate 60 try (first | with_reducible assumption | with_reducible apply keeps_beginInventory | split)

theorem keeps_countUncounted {r₀ s : State} (n : LaneNo) (hk : Keeps r₀ s) : Keeps r₀ (countUncounted n s) := by
  unfold countUncounted
  try dsimp only
  iterate 60 try (first | with_reducible assumption | with_reducible apply keeps_State_updLane | ((with_reducible intro _ h); first | exact h.counted ⟨h.1.1, h.1.2.1, h.1.2.2.1, h.1.2.2.2.1, h.1.2.2.2.2.1, (Counter.advance_value _ _).2 h.1.2.2.2.2.2⟩ ⟨h.2.1.1, h.2.1.2.1, h.2.1.2.2⟩ rfl rfl rfl | exact h | exact h.cleared rfl rfl rfl (Nat.le_refl _) (.inl rfl) | exact h.cleared rfl rfl rfl (Nat.zero_le _) (.inl rfl) | exact h.cleared rfl rfl rfl (Nat.zero_le _) (.inr rfl)) | split | with_reducible apply keeps_with | with_reducible apply keeps_port)

theorem keeps_trayFailed {r₀ s : State} (n : LaneNo) (w : TrayWait) (cause : LaneCause)
    (hk : Keeps r₀ s) : Keeps r₀ (trayFailed n w cause s) := by
  unfold trayFailed
  try dsimp only
  iterate 60 try (first | with_reducible assumption | with_reducible apply keeps_faultLane | with_reducible apply keeps_laneReject | with_reducible apply keeps_driveFault | with_reducible apply keeps_countUncounted | with_reducible apply keeps_faultEmpty | with_reducible apply keeps_tellTrayLost | with_reducible apply keeps_queryFailed | with_reducible apply keeps_staleAnswered | split | with_reducible apply keeps_with | with_reducible apply keeps_port)

theorem keeps_queryAnswered {r₀ s : State} (n : LaneNo) (present : Bool) (hk : Keeps r₀ s) : Keeps r₀ (queryAnswered n present s) := by
  unfold queryAnswered
  try dsimp only
  iterate 60 try (first | with_reducible assumption | with_reducible apply keeps_requestUnload | with_reducible apply keeps_setTray | with_reducible apply keeps_State_updLane | with_reducible apply keeps_laneRest | ((with_reducible intro _ h); first | exact h | exact h.cleared rfl rfl rfl (Nat.le_refl _) (.inl rfl) | exact h.cleared rfl rfl rfl (Nat.zero_le _) (.inl rfl) | exact h.cleared rfl rfl rfl (Nat.zero_le _) (.inr rfl)) | split | with_reducible apply keeps_with | with_reducible apply keeps_port)

theorem keeps_loadClosed {r₀ s : State} (n : LaneNo) (present : Bool) (hk : Keeps r₀ s) : Keeps r₀ (loadClosed n present s) := by
  unfold loadClosed
  try dsimp only
  iterate 60 try (first | with_reducible assumption | with_reducible apply keeps_countUncounted | with_reducible apply keeps_requestUnload | with_reducible apply keeps_enterProbing | with_reducible apply keeps_faultLane | with_reducible apply keeps_laneReject | with_reducible apply keeps_driveFault | split | with_reducible apply keeps_with | with_reducible apply keeps_port)

theorem keeps_trayAnswer {r₀ s : State} (n : LaneNo) (w : TrayWait) (tray : TrayValue) (present : Bool)
    (hk : Keeps r₀ s) : Keeps r₀ (trayAnswer n w tray present s) := by
  unfold trayAnswer
  try dsimp only
  iterate 60 try (first | with_reducible assumption | with_reducible apply keeps_staleAnswered | with_reducible apply keeps_trayFailed | with_reducible apply keeps_queryAnswered | with_reducible apply keeps_trayOffered | with_reducible apply keeps_sendTray | with_reducible apply keeps_loadClosed | with_reducible apply keeps_endWithdrawn | with_reducible apply keeps_laneRest | split | with_reducible apply keeps_with | with_reducible apply keeps_port)

theorem keeps_driveTray {r₀ s : State} (n : LaneNo) (tray : TrayValue) (present : Bool)
    (hk : Keeps r₀ s) : Keeps r₀ (driveTray n tray present s) := by
  unfold driveTray
  try dsimp only
  iterate 60 try (first | with_reducible assumption | with_reducible apply keeps_trayAnswer | with_reducible apply keeps_endTrayWait | with_reducible apply keeps_strayMessage | split | with_reducible apply keeps_with | with_reducible apply keeps_port)

theorem keeps_trayExpired {r₀ s : State} (n : LaneNo) (hk : Keeps r₀ s) : Keeps r₀ (trayExpired n s) := by
  unfold trayExpired
  try dsimp only
  iterate 60 try (first | with_reducible assumption | with_reducible apply keeps_trayFailed | with_reducible apply keeps_endTrayWait | with_reducible apply keeps_State_advanceTo | split | with_reducible apply keeps_with | with_reducible apply keeps_port)

theorem keeps_refuseLoad {r₀ s : State} (n : LaneNo) (mark : RefuseMark) (why : RejectReason)
    (hk : Keeps r₀ s) : Keeps r₀ (refuseLoad n mark why s) := by
  unfold refuseLoad
  try dsimp only
  iterate 60 try (first | with_reducible assumption | with_reducible apply keeps_State_updLane | with_reducible apply keeps_withdrawLoad | with_reducible apply keeps_laneReject | ((with_reducible intro _ h); first | exact h | exact h.cleared rfl rfl rfl (Nat.le_refl _) (.inl rfl) | exact h.cleared rfl rfl rfl (Nat.zero_le _) (.inl rfl) | exact h.cleared rfl rfl rfl (Nat.zero_le _) (.inr rfl)) | split | with_reducible apply keeps_with | with_reducible apply keeps_port)

theorem keeps_laneDown {r₀ s : State} (n : LaneNo) (hk : Keeps r₀ s) : Keeps r₀ (laneDown n s) := by
  unfold laneDown
  try dsimp only
  iterate 60 try (first | with_reducible assumption | with_reducible apply keeps_State_updLane | with_reducible apply keeps_faultLane | with_reducible apply keeps_refuseLoad | with_reducible apply keeps_driveFault | with_reducible apply keeps_rejectHeld | with_reducible apply keeps_countUncounted | with_reducible apply keeps_State_emit | with_reducible apply keeps_armRejected | with_reducible apply keeps_faultEmpty | with_reducible apply keeps_tellTrayLost | ((with_reducible intro _ h); first | exact h | exact h.cleared rfl rfl rfl (Nat.le_refl _) (.inl rfl) | exact h.cleared rfl rfl rfl (Nat.zero_le _) (.inl rfl) | exact h.cleared rfl rfl rfl (Nat.zero_le _) (.inr rfl)) | split | with_reducible apply keeps_with | with_reducible apply keeps_port)
  iterate 60 try (first | with_reducible assumption | with_reducible apply keeps_State_updLane | with_reducible apply keeps_faultLane | with_reducible apply keeps_refuseLoad | with_reducible apply keeps_driveFault | with_reducible apply keeps_rejectHeld | with_reducible apply keeps_countUncounted | with_reducible apply keeps_State_emit | with_reducible apply keeps_armRejected | with_reducible apply keeps_faultEmpty | with_reducible apply keeps_tellTrayLost | ((with_reducible intro _ h); first | exact h | exact h.cleared rfl rfl rfl (Nat.le_refl _) (.inl rfl) | exact h.cleared rfl rfl rfl (Nat.zero_le _) (.inl rfl) | exact h.cleared rfl rfl rfl (Nat.zero_le _) (.inr rfl)) | split | with_reducible apply keeps_with | with_reducible apply keeps_port)
  iterate 60 try (first | with_reducible assumption | with_reducible apply keeps_State_updLane | with_reducible apply keeps_faultLane | with_reducible apply keeps_refuseLoad | with_reducible apply keeps_driveFault | with_reducible apply keeps_rejectHeld | with_reducible apply keeps_countUncounted | with_reducible apply keeps_State_emit | with_reducible apply keeps_armRejected | with_reducible apply keeps_faultEmpty | with_reducible apply keeps_tellTrayLost | ((with_reducible intro _ h); first | exact h | exact h.cleared rfl rfl rfl (Nat.le_refl _) (.inl rfl) | exact h.cleared rfl rfl rfl (Nat.zero_le _) (.inl rfl) | exact h.cleared rfl rfl rfl (Nat.zero_le _) (.inr rfl)) | split | with_reducible apply keeps_with | with_reducible apply keeps_port)
  iterate 60 try (first | with_reducible assumption | with_reducible apply keeps_State_updLane | with_reducible apply keeps_faultLane | with_reducible apply keeps_refuseLoad | with_reducible apply keeps_driveFault | with_reducible apply keeps_rejectHeld | with_reducible apply keeps_countUncounted | with_reducible apply keeps_State_emit | with_reducible apply keeps_armRejected | with_reducible apply keeps_faultEmpty | with_reducible apply keeps_tellTrayLost | ((with_reducible intro _ h); first | exact h | exact h.cleared rfl rfl rfl (Nat.le_refl _) (.inl rfl) | exact h.cleared rfl rfl rfl (Nat.zero_le _) (.inl rfl) | exact h.cleared rfl rfl rfl (Nat.zero_le _) (.inr rfl)) | split | with_reducible apply keeps_with | with_reducible apply keeps_port)

theorem keeps_portDown {r₀ s : State} (n : LaneNo) (hk : Keeps r₀ s) : Keeps r₀ (portDown n s) := by
  unfold portDown
  try dsimp only
  iterate 60 try (first | with_reducible assumption | with_reducible apply keeps_laneDown | with_reducible apply keeps_State_setLink | split)

theorem keeps_portUp {r₀ s : State} (n : LaneNo) (hk : Keeps r₀ s) : Keeps r₀ (portUp n s) := by
  unfold portUp
  try dsimp only
  iterate 60 try (first | with_reducible assumption | with_reducible apply keeps_State_setLink | with_reducible apply keeps_beginRecovery | split | with_reducible apply keeps_with | with_reducible apply keeps_port)

theorem keeps_enableLane {r₀ s : State} (n : LaneNo) (hk : Keeps r₀ s) : Keeps r₀ (enableLane n s) := by
  unfold enableLane
  try dsimp only
  iterate 60 try (first | with_reducible assumption | with_reducible apply keeps_State_updLane | with_reducible apply keeps_laneRest | with_reducible apply keeps_beginRecovery | ((with_reducible intro _ h); first | exact ⟨h.1, h.2.1, h.2.2.1, Nat.min_le_left _ _, h.2.2.2.2⟩ | exact ⟨h.1, h.2.1, h.2.2.1, Nat.zero_le _, h.2.2.2.2⟩ | exact h | exact h.cleared rfl rfl rfl (Nat.le_refl _) (.inl rfl) | exact h.cleared rfl rfl rfl (Nat.zero_le _) (.inl rfl) | exact h.cleared rfl rfl rfl (Nat.zero_le _) (.inr rfl)) | split | with_reducible apply keeps_with | with_reducible apply keeps_port)

theorem keeps_disableLane {r₀ s : State} (n : LaneNo) (hk : Keeps r₀ s) : Keeps r₀ (disableLane n s) := by
  unfold disableLane
  try dsimp only
  iterate 60 try (first | with_reducible assumption | with_reducible apply keeps_State_updLane | with_reducible apply keeps_enterLane | with_reducible apply keeps_refuseLoad | with_reducible apply keeps_laneReject | ((with_reducible intro _ h); first | exact h | exact h.cleared rfl rfl rfl (Nat.le_refl _) (.inl rfl) | exact h.cleared rfl rfl rfl (Nat.zero_le _) (.inl rfl) | exact h.cleared rfl rfl rfl (Nat.zero_le _) (.inr rfl)) | split | with_reducible apply keeps_with | with_reducible apply keeps_port)

theorem keeps_takeFormed {r₀ s : State} (n : LaneNo) (m : DriveMsg) (hk : Keeps r₀ s) : Keeps r₀ (takeFormed n m s) := by
  unfold takeFormed
  try dsimp only
  iterate 60 try (first | with_reducible assumption | with_reducible apply keeps_driveMedia | with_reducible apply keeps_driveSpeedAck | with_reducible apply keeps_driveSpeedRefused | with_reducible apply keeps_driveOpenAck | with_reducible apply keeps_driveCredit | with_reducible apply keeps_driveGap | with_reducible apply keeps_driveClosed | with_reducible apply keeps_driveRdata | with_reducible apply keeps_driveTray | with_reducible apply keeps_driveFault | with_reducible apply keeps_strayMessage | split | with_reducible apply keeps_with | with_reducible apply keeps_port)

theorem keeps_takeMessage {r₀ s : State} (n : LaneNo) (m : DriveMsg) (hk : Keeps r₀ s) : Keeps r₀ (takeMessage n m s) := by
  unfold takeMessage
  try dsimp only
  iterate 60 try (first | with_reducible assumption | with_reducible apply keeps_takeFormed | with_reducible apply keeps_strayMessage | split)

theorem keeps_deliver {r₀ s : State} (n : LaneNo) (m : DriveMsg) (hk : Keeps r₀ s) : Keeps r₀ (deliver n m s) := by
  unfold deliver
  try dsimp only
  iterate 60 try (first | with_reducible assumption | with_reducible apply keeps_takeMessage | split)

theorem keeps_takeSignal {r₀ s : State} (sig : Signal) (hk : Keeps r₀ s) : Keeps r₀ (takeSignal sig s) := by
  unfold takeSignal
  try dsimp only
  iterate 60 try (first | with_reducible assumption | with_reducible apply keeps_dispatchPass | with_reducible apply keeps_refreshStalls | with_reducible apply keeps_armSelect | with_reducible apply keeps_stopTest | with_reducible apply keeps_sweepTest | with_reducible apply keeps_grantUnit | with_reducible apply keeps_armPresented | with_reducible apply keeps_armPresentLost | with_reducible apply keeps_armRejected | with_reducible apply keeps_stepTest | split | with_reducible apply keeps_with | with_reducible apply keeps_port)

theorem keeps_settleN {r s : State} (n : Nat) (h : Keeps r s) : Keeps r (settleN n s) := by
  induction n generalizing s with
  | zero => exact keeps_with h
  | succ k ih =>
    unfold settleN
    split
    · exact h
    · exact ih (keeps_takeSignal _ (keeps_with h))

theorem keeps_settle {r s : State} (h : Keeps r s) : Keeps r (settle s) := keeps_settleN 4096 h

end Sys2Proof.Machine
end

