-- ==== Sys2Proof/Laws/KeepsCommand.lean ====
section
/-! SUPPORT. What the part keeps (`Keeps`): the same for what the commands do. -/

namespace Sys2Proof.Machine

theorem keeps_runLane {r₀ s : State} (c : ConfigBlock) (n : LaneNo) (hk : Keeps r₀ s) : Keeps r₀ (runLane c s n) := by
  refine keeps_writeLane _ (keeps_State_updLane _ _ hk fun l h => ?_)
  unfold Lane.atRun
  dsimp only
  split <;> exact h.cleared rfl rfl rfl (Nat.zero_le _) (.inr rfl)

/-- From a STOPPED part, whose window shows nothing that it must go on to show: jobs and transport as they like. -/
theorem keeps_unshown {r s : State} {jobs transport} (h : Keeps r s) (hr : r.port.part = .stopped)
    (hj : (∀ j : SlotNo, JobFits (s.job j)) → ∀ j : SlotNo, JobFits jobs[j]) :
    Keeps r { s with jobs := jobs, transport := transport } :=
  ⟨h.base, h.size, h.enables, h.pending, h.bridges, h.cause, h.time, h.logs, h.updates, fun hf =>
    have h2 := h.fits hf
    ⟨h2.1, h2.2.1, h2.2.2.1, h2.2.2.2.1, hj h2.2.2.2.2⟩, h.memories, fun h2 => absurd hr h2.1⟩

/-- A region written, from a STOPPED part. -/
theorem keeps_reportUnshown {r s : State} (offset : Nat) (bs : List Byte) (h : Keeps r s) (hr : r.port.part = .stopped) :
    Keeps r (report offset bs s) := by
  unfold report
  split
  · refine keeps_putHeader (keeps_countUpdate ⟨h.base, h.size, h.enables, h.pending, h.bridges, h.cause, h.time, h.logs, h.updates, h.fits,
      fun h2 => ⟨(h.memories h2).1, Memory.wf_writeBytes _ _ _ (h.memories h2).2⟩, fun h2 => absurd hr h2.1⟩)
  · exact h

theorem keeps_runTransport {r s : State} (c : ConfigBlock) (h : Keeps r s) (hr : r.port.part = .stopped) : Keeps r (runTransport c s) :=
  keeps_reportUnshown _ _ (keeps_foldl (fun _ _ h => keeps_reportUnshown _ _ h hr) (keeps_unshown h hr fun hf => hf)) hr

theorem keeps_runJobs {r s : State} (h : Keeps r s) (hr : r.port.part = .stopped) : Keeps r (runJobs s) := by
  refine keeps_foldl (fun _ _ h => keeps_reportUnshown _ _ h hr) (keeps_unshown h hr fun _ j => ?_)
  rw [Fin.getElem_fin, Vector.getElem_replicate]
  exact jobFits_reset

theorem keeps_runPrinter {r₀ s : State} (c : ConfigBlock) (hk : Keeps r₀ s) : Keeps r₀ (runPrinter c s) := by
  unfold runPrinter
  try dsimp only
  iterate 60 try (first | with_reducible assumption | with_reducible apply keeps_writePrinter | split | with_reducible apply keeps_with | with_reducible apply keeps_port)

theorem keeps_enterStarting {r s : State} (c : ConfigBlock) (h : Keeps r s) (hr : r.port.part = .stopped) : Keeps r (enterStarting c s) :=
  keeps_with (keeps_runPrinter _ (keeps_runTransport _ (keeps_foldl (fun _ _ h => keeps_runLane _ _ h)
    (keeps_runJobs (keeps_setPart _ (keeps_port h) (.inl hr)) hr)) hr))

theorem keeps_cleanRecord {r₀ s : State} (i : DiscNo) (b : List Byte) (hk : Keeps r₀ s) : Keeps r₀ (cleanRecord i b s) := by
  unfold cleanRecord
  try dsimp only
  iterate 60 try (first | with_reducible assumption | with_reducible apply keeps_State_setDisc | with_reducible apply keeps_writeRecord | with_reducible apply keeps_logEntry | split | with_reducible apply keeps_with | with_reducible apply keeps_port)

theorem keeps_homeAfterClean {r₀ s : State}  (hk : Keeps r₀ s) : Keeps r₀ (homeAfterClean s) := by
  unfold homeAfterClean
  try dsimp only
  iterate 60 try (first | with_reducible assumption | with_reducible apply keeps_beginHoming | split | with_reducible apply keeps_with | with_reducible apply keeps_port | with_reducible refine keeps_unseen ?_ (by with_unfolding_all rfl) (by with_unfolding_all rfl))

theorem changeArm_part (f : Transport → Transport) (s : State) : (changeArm f s).port.part = s.port.part := by
  unfold changeArm
  dsimp only
  split
  · rfl
  · rw [report_port_part]

theorem keeps_cleanFails {r₀ s : State} (hk : Keeps r₀ s) (hp : s.port.part ≠ .stopped) : Keeps r₀ (cleanFails s) := by
  refine keeps_setPart _ (keeps_changeArm _ (keeps_with hk) rfl) (.inr ?_)
  rw [changeArm_part]
  exact hp

theorem keeps_cleanNext {r₀ s : State} (i : Nat) (hk : Keeps r₀ s) : Keeps r₀ (cleanNext i s) := by
  unfold cleanNext
  try dsimp only
  iterate 60 try (first | with_reducible assumption | with_reducible apply keeps_homeAfterClean | split | with_reducible apply keeps_with | with_reducible apply keeps_port)

theorem keeps_assertStop {r₀ s : State}  (hk : Keeps r₀ s) : Keeps r₀ (assertStop s) := by
  unfold assertStop
  try dsimp only
  iterate 60 try (first | with_reducible assumption | with_reducible apply keeps_setCause | with_reducible apply keeps_logEntry | with_reducible apply keeps_haltPrinter | with_reducible apply keeps_stopArm | split | with_reducible apply keeps_with | with_reducible apply keeps_port)

theorem keeps_clearStop {r₀ s : State}  (hk : Keeps r₀ s) : Keeps r₀ (clearStop s) := by
  unfold clearStop
  try dsimp only
  iterate 60 try (first | with_reducible assumption | with_reducible apply keeps_logEntry | with_reducible apply keeps_beginHoming | split | with_reducible apply keeps_with | with_reducible apply keeps_port | with_reducible refine keeps_unseen ?_ (by with_unfolding_all rfl) (by with_unfolding_all rfl))

theorem keeps_searchEnd {r₀ s : State} (h : Nat) (hk : Keeps r₀ s) : Keeps r₀ (searchEnd h s) := by
  unfold searchEnd
  try dsimp only
  iterate 60 try (first | with_reducible assumption | with_reducible apply keeps_showPositions | with_reducible apply keeps_setLift | with_reducible apply keeps_stopTimer | split)

theorem keeps_shakeEnds {r₀ s : State} (k : Nat) (two : Bool) (hk : Keeps r₀ s) : Keeps r₀ (shakeEnds k two s) := by
  unfold shakeEnds
  try dsimp only
  iterate 60 try (first | with_reducible assumption | with_reducible apply keeps_reportPick | with_reducible apply keeps_startTimer | with_reducible apply keeps_setPhase | with_reducible apply keeps_reportPair | split)

theorem keeps_homed {r₀ s : State}  (hk : Keeps r₀ s) : Keeps r₀ (homed s) := by
  unfold homed
  try dsimp only
  iterate 60 try (first | with_reducible assumption | with_reducible apply keeps_stopTimer | with_reducible refine keeps_changeArm _ ?_ rfl | split | with_reducible apply keeps_with | with_reducible apply keeps_port)

theorem keeps_afterHoming {r₀ s : State} (sense : Sensors) (hk : Keeps r₀ s) : Keeps r₀ (afterHoming sense s) := by
  unfold afterHoming
  try dsimp only
  iterate 60 try (first | with_reducible assumption | with_reducible apply keeps_homed | with_reducible apply keeps_releasePrinter | with_reducible apply keeps_beginSweep | with_reducible apply keeps_resumeTask | split | with_reducible apply keeps_with | with_reducible apply keeps_port | with_reducible refine keeps_unseen ?_ (by with_unfolding_all rfl) (by with_unfolding_all rfl))

theorem keeps_homingFails {r₀ s : State}  (hk : Keeps r₀ s) : Keeps r₀ (homingFails s) := by
  unfold homingFails
  try dsimp only
  iterate 60 try (first | with_reducible assumption | with_reducible apply keeps_stopTimer | with_reducible refine keeps_changeArm _ ?_ rfl | with_reducible apply keeps_failStarting | with_reducible apply keeps_logEntry | split | with_reducible apply keeps_with | with_reducible apply keeps_port | with_reducible refine keeps_unseen ?_ (by with_unfolding_all rfl) (by with_unfolding_all rfl))

theorem keeps_writeAnswer {r₀ : State} {a : Answer} (h : Keeps r₀ a.state) : Keeps r₀ (writeAnswer a) :=
  keeps_finishEntry _ _ (keeps_settle h)

theorem keeps_refuse {r₀ s : State} {c : ResultCode} (h : Keeps r₀ s) : Keeps r₀ (refuse c s).state := h

theorem keeps_accept {r₀ s : State} (h : Keeps r₀ s) : Keeps r₀ (accept s).state := h

theorem keeps_runEntry {r₀ s : State} {k : RequestKind} {take : List Byte → State → Answer}
    (ht : ∀ e, Keeps r₀ (take e s).state) (h : Keeps r₀ s) : Keeps r₀ (runEntry k take s) := by
  unfold runEntry
  split
  · split
    · split
      · exact keeps_writeAnswer (ht _)
      · exact keeps_finishEntry _ _ h
    · exact h
  · exact h

theorem keeps_installJob {r s : State} (j : SlotNo) (job : Job) (h : Keeps r s) (hj : JobFits job) :
    Keeps r (installJob j job s) := by
  have h1 := keeps_logEntry .jobAdmitted j.val [] (keeps_jobWritten j job h fun _ => hj)
  unfold installJob writeJob
  rw [State.job_setJob_self]
  dsimp only
  split
  · exact keeps_logEntry _ _ _ h1
  · exact keeps_State_emit _ (keeps_State_emit _ h1)

theorem keeps_admitRecord {r₀ s : State} (j : SlotNo) (b : List Byte) (strip : HostRead)
    (hk : Keeps r₀ s) : Keeps r₀ (admitRecord j b strip s).state := by
  unfold admitRecord
  try dsimp only
  iterate 60 try (first | with_reducible apply keeps_refuse | with_reducible apply keeps_accept | with_reducible assumption | with_reducible apply keeps_installJob | ((with_reducible intro _ h); first | exact h) | exact jobFits_reset | split | with_reducible apply keeps_with | with_reducible apply keeps_port | dsimp only)

theorem keeps_takeAdmitJob {r₀ s : State} (record strip : HostRead) (e : List Byte)
    (hk : Keeps r₀ s) : Keeps r₀ (takeAdmitJob record strip e s).state := by
  unfold takeAdmitJob
  try dsimp only
  iterate 60 try (first | with_reducible apply keeps_refuse | with_reducible apply keeps_accept | with_reducible assumption | with_reducible apply keeps_admitRecord | split | with_reducible apply keeps_with | with_reducible apply keeps_port | dsimp only)

theorem keeps_takeHoldJob {r₀ s : State} (e : List Byte) (hk : Keeps r₀ s) : Keeps r₀ (takeHoldJob e s).state := by
  unfold takeHoldJob
  try dsimp only
  iterate 60 try (first | with_reducible apply keeps_refuse | with_reducible apply keeps_accept | with_reducible assumption | with_reducible apply keeps_holdJobFor | split | with_reducible apply keeps_with | with_reducible apply keeps_port | dsimp only)

theorem keeps_resumeJob {r₀ s : State} (j : SlotNo) (hk : Keeps r₀ s) : Keeps r₀ (resumeJob j s) := by
  unfold resumeJob
  try dsimp only
  iterate 60 try (first | with_reducible assumption | with_reducible apply keeps_logEntry | with_reducible apply keeps_changeJob | with_reducible apply keeps_freeFailed | with_reducible apply keeps_State_emit | ((with_reducible intro _ h); first | exact h | exact ⟨satInc_le h.1, h.2⟩ | exact ⟨satInc_le h.1, satInc_le h.2.1, h.2.2⟩ | exact ⟨h.1, satInc_le h.2.1, h.2.2⟩ | exact ⟨h.1, h.2.1, Nat.zero_le _⟩ | exact ⟨h.1, h.2.1, Nat.min_le_left _ _⟩) | split)

theorem keeps_takeResumeJob {r₀ s : State} (e : List Byte) (hk : Keeps r₀ s) : Keeps r₀ (takeResumeJob e s).state := by
  unfold takeResumeJob
  try dsimp only
  iterate 60 try (first | with_reducible apply keeps_refuse | with_reducible apply keeps_accept | with_reducible assumption | with_reducible apply keeps_resumeJob | split | with_reducible apply keeps_with | with_reducible apply keeps_port | dsimp only)

theorem keeps_abortDisc {r₀ s : State} (j : SlotNo) (n : LaneNo) (hk : Keeps r₀ s) : Keeps r₀ (abortDisc j s n) := by
  unfold abortDisc
  try dsimp only
  iterate 60 try (first | with_reducible assumption | with_reducible apply keeps_laneTurn | with_reducible apply keeps_laneReject | split | with_reducible apply keeps_with | with_reducible apply keeps_port)

theorem keeps_abortJob {r₀ s : State} (j : SlotNo) (hk : Keeps r₀ s) : Keeps r₀ (abortJob j s) := by
  unfold abortJob
  try dsimp only
  iterate 60 try (first | with_reducible assumption | with_reducible apply keeps_changeJob | with_reducible apply keeps_testCounts | with_reducible apply keeps_abortDisc | with_reducible apply keeps_withdrawLoads | ((with_reducible intro _ h); first | exact h | exact ⟨satInc_le h.1, h.2⟩ | exact ⟨satInc_le h.1, satInc_le h.2.1, h.2.2⟩ | exact ⟨h.1, satInc_le h.2.1, h.2.2⟩ | exact ⟨h.1, h.2.1, Nat.zero_le _⟩ | exact ⟨h.1, h.2.1, Nat.min_le_left _ _⟩) | (apply keeps_foldl; intro t a ht; try dsimp only) | split | with_reducible apply keeps_with | with_reducible apply keeps_port)

theorem keeps_takeAbortJob {r₀ s : State} (e : List Byte) (hk : Keeps r₀ s) : Keeps r₀ (takeAbortJob e s).state := by
  unfold takeAbortJob
  try dsimp only
  iterate 60 try (first | with_reducible apply keeps_refuse | with_reducible apply keeps_accept | with_reducible assumption | with_reducible apply keeps_abortJob | split | with_reducible apply keeps_with | with_reducible apply keeps_port | dsimp only)

theorem keeps_takeClearJob {r₀ s : State} (e : List Byte) (hk : Keeps r₀ s) : Keeps r₀ (takeClearJob e s).state := by
  unfold takeClearJob
  split
  · exact hk
  · split
    · exact hk
    · split
      · exact hk
      · exact keeps_writeJob _ _ (keeps_releaseFrames _ hk) fun _ => jobFits_reset

theorem keeps_takeExchangeLabel {r₀ s : State} (e : List Byte) (hk : Keeps r₀ s) : Keeps r₀ (takeExchangeLabel e s).state := by
  unfold takeExchangeLabel
  try dsimp only
  iterate 60 try (first | with_reducible apply keeps_refuse | with_reducible apply keeps_accept | with_reducible assumption | with_reducible apply keeps_changeJob | with_reducible apply keeps_updPrinter | ((with_reducible intro _ h); first | exact h | exact ⟨satInc_le h.1, h.2⟩ | exact ⟨satInc_le h.1, satInc_le h.2.1, h.2.2⟩ | exact ⟨h.1, satInc_le h.2.1, h.2.2⟩ | exact ⟨h.1, h.2.1, Nat.zero_le _⟩ | exact ⟨h.1, h.2.1, Nat.min_le_left _ _⟩) | split | with_reducible apply keeps_with | with_reducible apply keeps_port | dsimp only)

theorem keeps_releaseEntry {r₀ : State} {x : Release} (e : List Byte) (i : Nat) (h : Keeps r₀ x.state) :
    Keeps r₀ (releaseEntry e i x).state := by
  unfold releaseEntry
  split
  · split
    · split
      · exact keeps_settle (keeps_freeRecord _ h)
      · exact h
    · exact h
  · exact h

theorem keeps_takeReleaseDiscs {r₀ s : State} (e : List Byte) (hk : Keeps r₀ s) : Keeps r₀ (takeReleaseDiscs e s).state := by
  have hl : ∀ (l : List Nat) (x : Release), Keeps r₀ x.state → Keeps r₀ (l.foldl (fun x i => releaseEntry e i x) x).state := by
    intro l
    induction l with
    | nil => exact fun _ h => h
    | cons i rest ih => exact fun x h => ih _ (keeps_releaseEntry e i h)
  unfold takeReleaseDiscs
  split
  · exact hk
  · exact hl _ _ hk

theorem keeps_deliverHeld {r₀ s : State} (n : LaneNo) (held : List DriveMsg) (hk : Keeps r₀ s) : Keeps r₀ (deliverHeld n held s) := by
  unfold deliverHeld
  try dsimp only
  iterate 60 try (first | with_reducible assumption | with_reducible apply keeps_settle | with_reducible apply keeps_deliver | (apply keeps_foldl; intro t a ht; try dsimp only) | split)

theorem keeps_trayMoveEnds {r₀ s : State} (p : TrayPos) (hk : Keeps r₀ s) : Keeps r₀ (trayMoveEnds p s) := by
  unfold trayMoveEnds
  try dsimp only
  iterate 60 try (first | with_reducible assumption | with_reducible apply keeps_updPrinter | split | with_reducible apply keeps_with | with_reducible apply keeps_port)

theorem keeps_answerLost {r₀ s : State}  (hk : Keeps r₀ s) : Keeps r₀ (answerLost s) := by
  unfold answerLost
  try dsimp only
  iterate 60 try (first | with_reducible assumption | with_reducible apply keeps_updPrinter | with_reducible apply keeps_State_emit | split | with_reducible apply keeps_with | with_reducible apply keeps_port)

theorem keeps_trayMoveFails {r₀ s : State}  (hk : Keeps r₀ s) : Keeps r₀ (trayMoveFails s) := by
  unfold trayMoveFails
  try dsimp only
  iterate 60 try (first | with_reducible assumption | with_reducible apply keeps_answerLost | with_reducible apply keeps_printerFail | with_reducible apply keeps_trayMoveEnds | split)

theorem keeps_lineDue {r₀ s : State}  (hk : Keeps r₀ s) : Keeps r₀ (lineDue s) := by
  unfold lineDue
  try dsimp only
  iterate 60 try (first | with_reducible assumption | with_reducible apply keeps_tryStrike | with_reducible apply keeps_starveLine | split | with_reducible apply keeps_with | with_reducible apply keeps_port)

theorem keeps_phaseEnds {r₀ s : State} (k : Strike) (phase lineStart : Nat) (sample : Sample)
    (hk : Keeps r₀ s) : Keeps r₀ (phaseEnds k phase lineStart sample s) := by
  unfold phaseEnds
  try dsimp only
  iterate 60 try (first | with_reducible assumption | with_reducible apply keeps_updPrinter | with_reducible apply keeps_afterLine | with_reducible apply keeps_lineStruck | split | with_reducible apply keeps_with | with_reducible apply keeps_port)

theorem keeps_lineReadFails {r₀ s : State} (line attempt : Nat) (hk : Keeps r₀ s) : Keeps r₀ (lineReadFails line attempt s) := by
  unfold lineReadFails
  try dsimp only
  iterate 60 try (first | with_reducible assumption | with_reducible apply keeps_setSlot | with_reducible apply keeps_updPrinter | with_reducible apply keeps_endOnRead | split | with_reducible apply keeps_with | with_reducible apply keeps_port)

theorem keeps_lineReadGood {r₀ s : State} (line : Nat) (bs : List Byte) (hk : Keeps r₀ s) : Keeps r₀ (lineReadGood line bs s) := by
  unfold lineReadGood
  try dsimp only
  iterate 60 try (first | with_reducible assumption | with_reducible apply keeps_setSlot | with_reducible apply keeps_tryStrike | split)

theorem keeps_resumePrint {r₀ s : State}  (hk : Keeps r₀ s) : Keeps r₀ (resumePrint s) := by
  unfold resumePrint
  try dsimp only
  iterate 60 try (first | with_reducible assumption | with_reducible apply keeps_tryStrike | with_reducible apply keeps_changePrinter | split | with_reducible apply keeps_with | with_reducible apply keeps_port)

theorem keeps_holdSample {r₀ s : State} (sample : Sample) (hk : Keeps r₀ s) : Keeps r₀ (holdSample sample s) := by
  unfold holdSample
  try dsimp only
  iterate 60 try (first | with_reducible assumption | with_reducible apply keeps_updPrinter | split | with_reducible apply keeps_with | with_reducible apply keeps_port)

theorem keeps_judgeHot {r₀ s : State} (sample : Sample) (hk : Keeps r₀ s) : Keeps r₀ (judgeHot sample s) := by
  unfold judgeHot
  try dsimp only
  iterate 60 try (first | with_reducible assumption | with_reducible apply keeps_holdSample | with_reducible apply keeps_printerFail | with_reducible apply keeps_resumePrint | split)

theorem keeps_judgeSupply {r₀ s : State} (sample : Sample) (hk : Keeps r₀ s) : Keeps r₀ (judgeSupply sample s) := by
  unfold judgeSupply
  try dsimp only
  iterate 60 try (first | with_reducible assumption | with_reducible apply keeps_holdSample | with_reducible apply keeps_printerFail | with_reducible apply keeps_resumePrint | split)

theorem keeps_takeRibbonOut {r₀ s : State}  (hk : Keeps r₀ s) : Keeps r₀ (takeRibbonOut s) := by
  unfold takeRibbonOut
  try dsimp only
  iterate 60 try (first | with_reducible assumption | with_reducible apply keeps_updPrinter | with_reducible apply keeps_ribbonFails | split | with_reducible apply keeps_with | with_reducible apply keeps_port)

theorem keeps_setLane {r₀ s : State} (n : LaneNo) (enable : Bool) (cap : Nat)
    (hk : Keeps r₀ s) : Keeps r₀ (setLane n enable cap s) := by
  unfold setLane
  try dsimp only
  iterate 60 try (first | with_reducible assumption | with_reducible apply keeps_State_updLane | with_reducible apply keeps_writeLane | with_reducible apply keeps_enableLane | with_reducible apply keeps_disableLane | ((with_reducible intro _ h); first | exact h | exact h.cleared rfl rfl rfl (Nat.le_refl _) (.inl rfl) | exact h.cleared rfl rfl rfl (Nat.zero_le _) (.inl rfl) | exact h.cleared rfl rfl rfl (Nat.zero_le _) (.inr rfl)) | split | with_reducible apply keeps_with | with_reducible apply keeps_port)

theorem keeps_takeSetLane {r₀ s : State} (e : List Byte) (hk : Keeps r₀ s) : Keeps r₀ (takeSetLane e s).state := by
  unfold takeSetLane
  try dsimp only
  iterate 60 try (first | with_reducible apply keeps_refuse | with_reducible apply keeps_accept | with_reducible assumption | with_reducible apply keeps_setLane | with_reducible apply keeps_State_setLane | ((with_reducible intro _ h); first | exact h | exact h.cleared rfl rfl rfl (Nat.le_refl _) (.inl rfl) | exact h.cleared rfl rfl rfl (Nat.zero_le _) (.inl rfl) | exact h.cleared rfl rfl rfl (Nat.zero_le _) (.inr rfl)) | ((with_reducible intro h); first | exact h | exact h.cleared rfl rfl rfl (Nat.le_refl _) (.inl rfl) | exact h.cleared rfl rfl rfl (Nat.zero_le _) (.inl rfl) | exact h.cleared rfl rfl rfl (Nat.zero_le _) (.inr rfl)) | split | with_reducible apply keeps_with | with_reducible apply keeps_port | dsimp only)

theorem keeps_takeTakeCounts {r₀ s : State} (e : List Byte) (hk : Keeps r₀ s) : Keeps r₀ (takeTakeCounts e s).state := by
  unfold takeTakeCounts
  try dsimp only
  iterate 60 try (first | with_reducible apply keeps_refuse | with_reducible apply keeps_accept | with_reducible assumption | with_reducible apply keeps_writeLane | with_reducible apply keeps_State_updLane | ((with_reducible intro _ h); first | exact ⟨⟨Nat.zero_le _, Nat.zero_le _, Nat.zero_le _, Nat.zero_le _, Nat.zero_le _, Nat.zero_le _⟩, h.2⟩ | exact h | exact h.cleared rfl rfl rfl (Nat.le_refl _) (.inl rfl) | exact h.cleared rfl rfl rfl (Nat.zero_le _) (.inl rfl) | exact h.cleared rfl rfl rfl (Nat.zero_le _) (.inr rfl)) | split | with_reducible apply keeps_with | with_reducible apply keeps_port | dsimp only)

theorem keeps_takeDiagnoseLane {r₀ s : State} (e : List Byte) (hk : Keeps r₀ s) : Keeps r₀ (takeDiagnoseLane e s).state := by
  unfold takeDiagnoseLane
  try dsimp only
  iterate 60 try (first | with_reducible apply keeps_refuse | with_reducible apply keeps_accept | with_reducible assumption | with_reducible apply keeps_diagStart | with_reducible apply keeps_State_emit | split | with_reducible apply keeps_with | with_reducible apply keeps_port | dsimp only)

theorem keeps_flagCleared {r₀ s : State} (was : Bool) (hk : Keeps r₀ s) : Keeps r₀ (flagCleared was s) := by
  unfold flagCleared
  try dsimp only
  iterate 60 try (first | with_reducible assumption | with_reducible apply keeps_State_emit | split)

theorem keeps_refillSpindle {r₀ s : State} (k : StationNo) (count : Nat) (hk : Keeps r₀ s) : Keeps r₀ (refillSpindle k count s) :=
  keeps_flagCleared _ (keeps_writeEntry _ _ hk)

theorem keeps_takeRefill {r₀ s : State} (e : List Byte) (hk : Keeps r₀ s) : Keeps r₀ (takeRefill e s).state := by
  unfold takeRefill
  try dsimp only
  iterate 60 try (first | with_reducible apply keeps_refuse | with_reducible apply keeps_accept | with_reducible assumption | with_reducible apply keeps_refillSpindle | split | with_reducible apply keeps_with | with_reducible apply keeps_port | dsimp only)

theorem keeps_emptySpindle {r₀ s : State} (k : StationNo) (hk : Keeps r₀ s) : Keeps r₀ (emptySpindle k s) :=
  keeps_flagCleared _ (keeps_writeEntry _ _ hk)

theorem keeps_takeEmptied {r₀ s : State} (e : List Byte) (hk : Keeps r₀ s) : Keeps r₀ (takeEmptied e s).state := by
  unfold takeEmptied
  try dsimp only
  iterate 60 try (first | with_reducible apply keeps_refuse | with_reducible apply keeps_accept | with_reducible assumption | with_reducible apply keeps_emptySpindle | split | with_reducible apply keeps_with | with_reducible apply keeps_port | dsimp only)

theorem keeps_takeClearTransport {r₀ s : State} (_e : List Byte) (hk : Keeps r₀ s) : Keeps r₀ (takeClearTransport _e s).state := by
  unfold takeClearTransport
  try dsimp only
  iterate 60 try (first | with_reducible apply keeps_refuse | with_reducible apply keeps_accept | with_reducible assumption | with_reducible apply keeps_beginHoming | split | dsimp only)

theorem keeps_clearPrinter {r₀ s : State}  (hk : Keeps r₀ s) : Keeps r₀ (clearPrinter s) := by
  unfold clearPrinter
  try dsimp only
  iterate 60 try (first | with_reducible assumption | with_reducible apply keeps_finishPrinter | with_reducible apply keeps_updPrinter | with_reducible apply keeps_servePresent | with_reducible apply keeps_changePrinter | with_reducible apply keeps_State_emit | split | with_reducible apply keeps_with | with_reducible apply keeps_port)

theorem keeps_takeClearPrinter {r₀ s : State} (ribbonOut : Bool) (_e : List Byte)
    (hk : Keeps r₀ s) : Keeps r₀ (takeClearPrinter ribbonOut _e s).state := by
  unfold takeClearPrinter
  try dsimp only
  iterate 60 try (first | with_reducible apply keeps_refuse | with_reducible apply keeps_accept | with_reducible assumption | with_reducible apply keeps_clearPrinter | split | with_reducible apply keeps_with | with_reducible apply keeps_port | dsimp only)

theorem keeps_takeSetProfile {r₀ s : State} (record : HostRead) (e : List Byte)
    (hk : Keeps r₀ s) : Keeps r₀ (takeSetProfile record e s).state := by
  unfold takeSetProfile
  try dsimp only
  iterate 60 try (first | with_reducible apply keeps_refuse | with_reducible apply keeps_accept | with_reducible assumption | with_reducible apply keeps_writePrinter | with_reducible apply keeps_updPrinter | split | with_reducible apply keeps_with | with_reducible apply keeps_port | dsimp only)

end Sys2Proof.Machine
end

