-- ==== Sys2Proof/WellFormed.lean ====
section
/-! DEFINITION. Which commands are well formed: the operands that stand for bytes read from outside have the size of the record that
is read, and the numbers that name a part of a print, a fill or a height lie in the range the manual gives. `exec` gives every
command a meaning, well formed or not. -/

namespace Sys2Proof

/-- The bytes read fill the record that is read; an error status carries none. -/
def HostRead.fills (n : Nat) (r : HostRead) : Bool :=
  match r with
  | .data bs => decide (bs.length = n)
  | .error => true

/-- A read of at most `n` bytes. -/
def HostRead.within (n : Nat) (r : HostRead) : Bool :=
  match r with
  | .data bs => decide (bs.length ≤ n)
  | .error => true

/-- The entries of a sheet read whole: 1 to 32 places of 128 bytes (R182, 11.4). -/
def HostRead.isEntries (r : HostRead) : Bool :=
  match r with
  | .data bs => decide (bs.length % 128 = 0) && decide (bs.length ≤ 4096)
  | .error => true

/-- A page read of a fill: 4,096 bytes, or 2,048 for the last of an odd page (R51). -/
def HostRead.isPageRead (r : HostRead) : Bool :=
  match r with
  | .data bs => decide (bs.length = 4096) || decide (bs.length = 2048)
  | .error => true

/-- A drive message of the form R97 gives its kind. -/
def DriveMsg.wellFormed (m : DriveMsg) : Bool :=
  match m with
  | .media _ _ _ rates => decide (rates.length ≤ 8)
  | .rdata _ _ bs => decide (bs.length = 2048)
  | _ => true

/-- A list of sector numbers, rising. -/
def rising : List Nat → Bool
  | a :: b :: rest => decide (a < b) && rising (b :: rest)
  | _ => true

/-- A register write that is one of the other commands of the table: 64 bits wide, at CONTROL, WINDOW_BASE, WINDOW_SIZE or SHEET
(R189). -/
def namesRegister (offset : BitVec 64) (width : Nat) : Bool :=
  decide (width = 8) && [0x08, 0x10, 0x18, 0x20].contains offset.toNat

/-- The command is well formed. -/
def Instr.wellFormed (i : Instr) : Bool :=
  match i with
  | .pinReset _ => true
  | .run _ _ config => config.fills 4096
  | .stop _ _ => true
  | .softReset _ _ _ => true
  | .enablesWrite _ _ => true
  | .windowBaseWrite _ => true
  | .windowSizeWrite _ => true
  | .sheetWrite _ => true
  | .causeRead => true
  | .registerWriteIgnored offset width value =>
    !namesRegister offset width && decide (1 ≤ width ∧ width ≤ 8) && decide (value.toNat < 2 ^ (8 * width))
  | .sheetRead header entries => header.fills 64 && entries.isEntries
  | .admitJob record strip => record.fills 320 && strip.within 10240
  | .holdJob => true
  | .resumeJob => true
  | .abortJob => true
  | .clearJob => true
  | .exchangeLabel => true
  | .releaseDiscs => true
  | .setLane => true
  | .takeCounts => true
  | .diagnoseLane => true
  | .refill => true
  | .emptied => true
  | .clearTransport => true
  | .clearPrinter _ => true
  | .setProfile record => record.fills 64
  | .unknownKind => true
  | .rosterRecordRead record => record.fills 128
  | .stopAsserted => true
  | .stopCleared => true
  | .linkFrameFailed _ => true
  | .linkFrameGood _ _ => true
  | .linkDown _ held => held.all DriveMsg.wellFormed
  | .linkUp _ => true
  | .media _ _ _ _ rates => decide (rates.length ≤ 8)
  | .speedAck _ _ => true
  | .speedRefused _ _ => true
  | .openAck _ => true
  | .credit _ _ => true
  | .gap _ => true
  | .closed _ => true
  | .rdata _ _ _ bytes => decide (bytes.length = 2048)
  | .trayState _ _ _ => true
  | .fault _ _ => true
  | .malformedMessage _ => true
  | .mediaTimeout _ => true
  | .speedTimeout _ => true
  | .openTimeout _ => true
  | .creditStarvation _ => true
  | .closedTimeout _ => true
  | .readBlockTimeout _ => true
  | .trayTimeout _ => true
  | .sectorCopy _ => true
  | .data _ => true
  | .fillReadDone _ attempt read result => decide (attempt < 3) && decide (read < 32) && result.isPageRead
  | .fillReadTimeout _ attempt read => decide (attempt < 3) && decide (read < 32)
  | .compareDone _ => true
  | .diagCompareDone _ faulty => rising faulty
  | .moveStepDone _ => true
  | .contactTrip height _ => decide (height ≤ 23999)
  | .floorReached _ => true
  | .shakeDone _ => true
  | .moveTimeout => true
  | .liftTopTrip => true
  | .swingHomeTrip _ => true
  | .homeFail => true
  | .printerTrayHomeTrip => true
  | .retractDone _ => true
  | .lineAdvanceDone => true
  | .printerTrayTimeout => true
  | .lineDue => true
  | .strikePhaseEnd _ => true
  | .lineReadDone _ line attempt result =>
    decide (line < 1344) && decide (1 ≤ attempt ∧ attempt ≤ 3) && result.fills 168
  | .lineReadTimeout _ line attempt => decide (line < 1344) && decide (1 ≤ attempt ∧ attempt ≤ 3)
  | .hotHoldSample _ => true
  | .supplyWaitSample _ => true
  | .headHot => true
  | .supplyLow => true
  | .ribbonOut => true

end Sys2Proof
end

