-- ==== Sys2Proof/Laws/PerInstr.lean ====
section
/-! SUPPORT. What every command's operands are held to: a well-formed command carries no read of host memory longer than the longest
record the part reads whole, the glyph strip of 10,240 bytes (R3). One lemma per command. -/

namespace Sys2Proof

/-- The host reads a command carries. -/
def Instr.reads (i : Instr) : List HostRead :=
  match i with
  | .run _ _ config => [config]
  | .sheetRead header entries => [header, entries]
  | .admitJob record strip => [record, strip]
  | .setProfile record => [record]
  | .rosterRecordRead record => [record]
  | .fillReadDone _ _ _ result => [result]
  | .lineReadDone _ _ _ result => [result]
  | _ => []

theorem HostRead.within_of_fills {n m : Nat} {r : HostRead} (hn : n ≤ m) (h : r.fills n = true) : r.within m = true := by
  cases r with
  | error => rfl
  | data bs => simp only [fills, decide_eq_true_eq] at h; simp only [within, decide_eq_true_eq]; omega

theorem HostRead.within_of_within {n m : Nat} {r : HostRead} (hn : n ≤ m) (h : r.within n = true) : r.within m = true := by
  cases r with
  | error => rfl
  | data bs => simp only [within, decide_eq_true_eq] at h ⊢; omega

theorem HostRead.within_of_isEntries {m : Nat} {r : HostRead} (hn : 4096 ≤ m) (h : r.isEntries = true) : r.within m = true := by
  cases r with
  | error => rfl
  | data bs => simp only [isEntries, Bool.and_eq_true, decide_eq_true_eq] at h; simp only [within, decide_eq_true_eq]; omega

theorem HostRead.within_of_isPageRead {m : Nat} {r : HostRead} (hn : 4096 ≤ m) (h : r.isPageRead = true) : r.within m = true := by
  cases r with
  | error => rfl
  | data bs => simp only [isPageRead, Bool.or_eq_true, decide_eq_true_eq] at h; simp only [within, decide_eq_true_eq]; omega

/-- The host reads of a well-formed command are no longer than 10,240 bytes. -/
def Laws.OperandsFit.Statement (i : Instr) : Prop := i.wellFormed = true → ∀ r ∈ i.reads, r.within 10240 = true

theorem Laws.OperandsFit.pinReset (sense : Sensors) :
    Laws.OperandsFit.Statement (.pinReset sense) := fun _ _ h => nomatch h

theorem Laws.OperandsFit.run (causeEnables logEnables : BitVec 6) (config : HostRead) :
    Laws.OperandsFit.Statement (.run causeEnables logEnables config) := by
  intro h r hr
  simp only [Instr.reads, List.mem_singleton] at hr
  subst hr
  exact HostRead.within_of_fills (by decide) h

theorem Laws.OperandsFit.stop (causeEnables logEnables : BitVec 6) :
    Laws.OperandsFit.Statement (.stop causeEnables logEnables) := fun _ _ h => nomatch h

theorem Laws.OperandsFit.softReset (causeEnables logEnables : BitVec 6) (sense : Sensors) :
    Laws.OperandsFit.Statement (.softReset causeEnables logEnables sense) := fun _ _ h => nomatch h

theorem Laws.OperandsFit.enablesWrite (causeEnables logEnables : BitVec 6) :
    Laws.OperandsFit.Statement (.enablesWrite causeEnables logEnables) := fun _ _ h => nomatch h

theorem Laws.OperandsFit.windowBaseWrite (value : BitVec 64) :
    Laws.OperandsFit.Statement (.windowBaseWrite value) := fun _ _ h => nomatch h

theorem Laws.OperandsFit.windowSizeWrite (value : BitVec 64) :
    Laws.OperandsFit.Statement (.windowSizeWrite value) := fun _ _ h => nomatch h

theorem Laws.OperandsFit.sheetWrite (address : BitVec 64) :
    Laws.OperandsFit.Statement (.sheetWrite address) := fun _ _ h => nomatch h

theorem Laws.OperandsFit.causeRead :
    Laws.OperandsFit.Statement .causeRead := fun _ _ h => nomatch h

theorem Laws.OperandsFit.registerWriteIgnored (offset : BitVec 64) (width : Nat) (value : BitVec 64) :
    Laws.OperandsFit.Statement (.registerWriteIgnored offset width value) := fun _ _ h => nomatch h

theorem Laws.OperandsFit.sheetRead (header entries : HostRead) :
    Laws.OperandsFit.Statement (.sheetRead header entries) := by
  intro h r hr
  simp only [Instr.wellFormed, Bool.and_eq_true] at h
  simp only [Instr.reads, List.mem_cons, List.not_mem_nil, or_false] at hr
  obtain rfl | rfl := hr
  · exact HostRead.within_of_fills (by decide) h.1
  · exact HostRead.within_of_isEntries (by decide) h.2

theorem Laws.OperandsFit.admitJob (record strip : HostRead) :
    Laws.OperandsFit.Statement (.admitJob record strip) := by
  intro h r hr
  simp only [Instr.wellFormed, Bool.and_eq_true] at h
  simp only [Instr.reads, List.mem_cons, List.not_mem_nil, or_false] at hr
  obtain rfl | rfl := hr
  · exact HostRead.within_of_fills (by decide) h.1
  · exact HostRead.within_of_within (by decide) h.2

theorem Laws.OperandsFit.holdJob :
    Laws.OperandsFit.Statement .holdJob := fun _ _ h => nomatch h

theorem Laws.OperandsFit.resumeJob :
    Laws.OperandsFit.Statement .resumeJob := fun _ _ h => nomatch h

theorem Laws.OperandsFit.abortJob :
    Laws.OperandsFit.Statement .abortJob := fun _ _ h => nomatch h

theorem Laws.OperandsFit.clearJob :
    Laws.OperandsFit.Statement .clearJob := fun _ _ h => nomatch h

theorem Laws.OperandsFit.exchangeLabel :
    Laws.OperandsFit.Statement .exchangeLabel := fun _ _ h => nomatch h

theorem Laws.OperandsFit.releaseDiscs :
    Laws.OperandsFit.Statement .releaseDiscs := fun _ _ h => nomatch h

theorem Laws.OperandsFit.setLane :
    Laws.OperandsFit.Statement .setLane := fun _ _ h => nomatch h

theorem Laws.OperandsFit.takeCounts :
    Laws.OperandsFit.Statement .takeCounts := fun _ _ h => nomatch h

theorem Laws.OperandsFit.diagnoseLane :
    Laws.OperandsFit.Statement .diagnoseLane := fun _ _ h => nomatch h

theorem Laws.OperandsFit.refill :
    Laws.OperandsFit.Statement .refill := fun _ _ h => nomatch h

theorem Laws.OperandsFit.emptied :
    Laws.OperandsFit.Statement .emptied := fun _ _ h => nomatch h

theorem Laws.OperandsFit.clearTransport :
    Laws.OperandsFit.Statement .clearTransport := fun _ _ h => nomatch h

theorem Laws.OperandsFit.clearPrinter (ribbonOut : Bool) :
    Laws.OperandsFit.Statement (.clearPrinter ribbonOut) := fun _ _ h => nomatch h

theorem Laws.OperandsFit.setProfile (record : HostRead) :
    Laws.OperandsFit.Statement (.setProfile record) := by
  intro h r hr
  simp only [Instr.reads, List.mem_singleton] at hr
  subst hr
  exact HostRead.within_of_fills (by decide) h

theorem Laws.OperandsFit.unknownKind :
    Laws.OperandsFit.Statement .unknownKind := fun _ _ h => nomatch h

theorem Laws.OperandsFit.rosterRecordRead (record : HostRead) :
    Laws.OperandsFit.Statement (.rosterRecordRead record) := by
  intro h r hr
  simp only [Instr.reads, List.mem_singleton] at hr
  subst hr
  exact HostRead.within_of_fills (by decide) h

theorem Laws.OperandsFit.stopAsserted :
    Laws.OperandsFit.Statement .stopAsserted := fun _ _ h => nomatch h

theorem Laws.OperandsFit.stopCleared :
    Laws.OperandsFit.Statement .stopCleared := fun _ _ h => nomatch h

theorem Laws.OperandsFit.linkFrameFailed (lane : LaneNo) :
    Laws.OperandsFit.Statement (.linkFrameFailed lane) := fun _ _ h => nomatch h

theorem Laws.OperandsFit.linkFrameGood (lane : LaneNo) (finished : Bool) :
    Laws.OperandsFit.Statement (.linkFrameGood lane finished) := fun _ _ h => nomatch h

theorem Laws.OperandsFit.linkDown (lane : LaneNo) (held : List DriveMsg) :
    Laws.OperandsFit.Statement (.linkDown lane held) := fun _ _ h => nomatch h

theorem Laws.OperandsFit.linkUp (lane : LaneNo) :
    Laws.OperandsFit.Statement (.linkUp lane) := fun _ _ h => nomatch h

theorem Laws.OperandsFit.media (lane : LaneNo) (mediaClass : BitVec 8) (blank : Bool) (capacity : BitVec 32) (rates : List (BitVec 16)) :
    Laws.OperandsFit.Statement (.media lane mediaClass blank capacity rates) := fun _ _ h => nomatch h

theorem Laws.OperandsFit.speedAck (lane : LaneNo) (rate : BitVec 16) :
    Laws.OperandsFit.Statement (.speedAck lane rate) := fun _ _ h => nomatch h

theorem Laws.OperandsFit.speedRefused (lane : LaneNo) (rate : BitVec 16) :
    Laws.OperandsFit.Statement (.speedRefused lane rate) := fun _ _ h => nomatch h

theorem Laws.OperandsFit.openAck (lane : LaneNo) :
    Laws.OperandsFit.Statement (.openAck lane) := fun _ _ h => nomatch h

theorem Laws.OperandsFit.credit (lane : LaneNo) (count : BitVec 8) :
    Laws.OperandsFit.Statement (.credit lane count) := fun _ _ h => nomatch h

theorem Laws.OperandsFit.gap (lane : LaneNo) :
    Laws.OperandsFit.Statement (.gap lane) := fun _ _ h => nomatch h

theorem Laws.OperandsFit.closed (lane : LaneNo) :
    Laws.OperandsFit.Statement (.closed lane) := fun _ _ h => nomatch h

theorem Laws.OperandsFit.rdata (lane : LaneNo) (sector : BitVec 32) (status : SectorStatus) (bytes : List Byte) :
    Laws.OperandsFit.Statement (.rdata lane sector status bytes) := fun _ _ h => nomatch h

theorem Laws.OperandsFit.trayState (lane : LaneNo) (tray : TrayValue) (present : Bool) :
    Laws.OperandsFit.Statement (.trayState lane tray present) := fun _ _ h => nomatch h

theorem Laws.OperandsFit.fault (lane : LaneNo) (code : BitVec 16) :
    Laws.OperandsFit.Statement (.fault lane code) := fun _ _ h => nomatch h

theorem Laws.OperandsFit.malformedMessage (lane : LaneNo) :
    Laws.OperandsFit.Statement (.malformedMessage lane) := fun _ _ h => nomatch h

theorem Laws.OperandsFit.mediaTimeout (lane : LaneNo) :
    Laws.OperandsFit.Statement (.mediaTimeout lane) := fun _ _ h => nomatch h

theorem Laws.OperandsFit.speedTimeout (lane : LaneNo) :
    Laws.OperandsFit.Statement (.speedTimeout lane) := fun _ _ h => nomatch h

theorem Laws.OperandsFit.openTimeout (lane : LaneNo) :
    Laws.OperandsFit.Statement (.openTimeout lane) := fun _ _ h => nomatch h

theorem Laws.OperandsFit.creditStarvation (lane : LaneNo) :
    Laws.OperandsFit.Statement (.creditStarvation lane) := fun _ _ h => nomatch h

theorem Laws.OperandsFit.closedTimeout (lane : LaneNo) :
    Laws.OperandsFit.Statement (.closedTimeout lane) := fun _ _ h => nomatch h

theorem Laws.OperandsFit.readBlockTimeout (lane : LaneNo) :
    Laws.OperandsFit.Statement (.readBlockTimeout lane) := fun _ _ h => nomatch h

theorem Laws.OperandsFit.trayTimeout (lane : LaneNo) :
    Laws.OperandsFit.Statement (.trayTimeout lane) := fun _ _ h => nomatch h

theorem Laws.OperandsFit.sectorCopy (lane : LaneNo) :
    Laws.OperandsFit.Statement (.sectorCopy lane) := fun _ _ h => nomatch h

theorem Laws.OperandsFit.data (lane : LaneNo) :
    Laws.OperandsFit.Statement (.data lane) := fun _ _ h => nomatch h

theorem Laws.OperandsFit.fillReadDone (fill attempt read : Nat) (result : HostRead) :
    Laws.OperandsFit.Statement (.fillReadDone fill attempt read result) := by
  intro h r hr
  simp only [Instr.wellFormed, Bool.and_eq_true] at h
  simp only [Instr.reads, List.mem_singleton] at hr
  subst hr
  exact HostRead.within_of_isPageRead (by decide) h.2

theorem Laws.OperandsFit.fillReadTimeout (fill attempt read : Nat) :
    Laws.OperandsFit.Statement (.fillReadTimeout fill attempt read) := fun _ _ h => nomatch h

theorem Laws.OperandsFit.compareDone (unit : UnitNo) :
    Laws.OperandsFit.Statement (.compareDone unit) := fun _ _ h => nomatch h

theorem Laws.OperandsFit.diagCompareDone (unit : UnitNo) (faulty : List Nat) :
    Laws.OperandsFit.Statement (.diagCompareDone unit faulty) := fun _ _ h => nomatch h

theorem Laws.OperandsFit.moveStepDone (sense : Sensors) :
    Laws.OperandsFit.Statement (.moveStepDone sense) := fun _ _ h => nomatch h

theorem Laws.OperandsFit.contactTrip (height : Nat) (sense : Sensors) :
    Laws.OperandsFit.Statement (.contactTrip height sense) := fun _ _ h => nomatch h

theorem Laws.OperandsFit.floorReached (sense : Sensors) :
    Laws.OperandsFit.Statement (.floorReached sense) := fun _ _ h => nomatch h

theorem Laws.OperandsFit.shakeDone (two : Bool) :
    Laws.OperandsFit.Statement (.shakeDone two) := fun _ _ h => nomatch h

theorem Laws.OperandsFit.moveTimeout :
    Laws.OperandsFit.Statement .moveTimeout := fun _ _ h => nomatch h

theorem Laws.OperandsFit.liftTopTrip :
    Laws.OperandsFit.Statement .liftTopTrip := fun _ _ h => nomatch h

theorem Laws.OperandsFit.swingHomeTrip (sense : Sensors) :
    Laws.OperandsFit.Statement (.swingHomeTrip sense) := fun _ _ h => nomatch h

theorem Laws.OperandsFit.homeFail :
    Laws.OperandsFit.Statement .homeFail := fun _ _ h => nomatch h

theorem Laws.OperandsFit.printerTrayHomeTrip :
    Laws.OperandsFit.Statement .printerTrayHomeTrip := fun _ _ h => nomatch h

theorem Laws.OperandsFit.retractDone (sample : Sample) :
    Laws.OperandsFit.Statement (.retractDone sample) := fun _ _ h => nomatch h

theorem Laws.OperandsFit.lineAdvanceDone :
    Laws.OperandsFit.Statement .lineAdvanceDone := fun _ _ h => nomatch h

theorem Laws.OperandsFit.printerTrayTimeout :
    Laws.OperandsFit.Statement .printerTrayTimeout := fun _ _ h => nomatch h

theorem Laws.OperandsFit.lineDue :
    Laws.OperandsFit.Statement .lineDue := fun _ _ h => nomatch h

theorem Laws.OperandsFit.strikePhaseEnd (sample : Sample) :
    Laws.OperandsFit.Statement (.strikePhaseEnd sample) := fun _ _ h => nomatch h

theorem Laws.OperandsFit.lineReadDone (print line attempt : Nat) (result : HostRead) :
    Laws.OperandsFit.Statement (.lineReadDone print line attempt result) := by
  intro h r hr
  simp only [Instr.wellFormed, Bool.and_eq_true] at h
  simp only [Instr.reads, List.mem_singleton] at hr
  subst hr
  exact HostRead.within_of_fills (by decide) h.2

theorem Laws.OperandsFit.lineReadTimeout (print line attempt : Nat) :
    Laws.OperandsFit.Statement (.lineReadTimeout print line attempt) := fun _ _ h => nomatch h

theorem Laws.OperandsFit.hotHoldSample (sample : Sample) :
    Laws.OperandsFit.Statement (.hotHoldSample sample) := fun _ _ h => nomatch h

theorem Laws.OperandsFit.supplyWaitSample (sample : Sample) :
    Laws.OperandsFit.Statement (.supplyWaitSample sample) := fun _ _ h => nomatch h

theorem Laws.OperandsFit.headHot :
    Laws.OperandsFit.Statement .headHot := fun _ _ h => nomatch h

theorem Laws.OperandsFit.supplyLow :
    Laws.OperandsFit.Statement .supplyLow := fun _ _ h => nomatch h

theorem Laws.OperandsFit.ribbonOut :
    Laws.OperandsFit.Statement .ribbonOut := fun _ _ h => nomatch h

end Sys2Proof
end

