-- ==== Sys2Proof/Laws/Settle.lean ====
section
/-! SUPPORT. The reports of a step: with none waiting nothing happens, the first is taken first, and none is left over. -/

namespace Sys2Proof.Machine

theorem settleN_nil {s : State} (n : Nat) (h : s.signals = []) : settleN n s = s := by
  cases n with
  | zero => cases s; simp only at h; subst h; rfl
  | succ k => simp only [settleN, h]

theorem settle_nil {s : State} (h : s.signals = []) : settle s = s := settleN_nil 4096 h

theorem settleN_cons {s : State} {sig : Signal} {rest : List Signal} (n : Nat) (h : s.signals = sig :: rest) :
    settleN (n + 1) s = settleN n (takeSignal sig { s with signals := rest }) := by
  simp only [settleN, h]

theorem settle_cons {s : State} {sig : Signal} {rest : List Signal} (h : s.signals = sig :: rest) :
    settle s = settleN 4095 (takeSignal sig { s with signals := rest }) := settleN_cons 4095 h

theorem settleN_signals (n : Nat) (s : State) : (settleN n s).signals = [] := by
  induction n generalizing s with
  | zero => rfl
  | succ k ih =>
    rw [settleN]
    split
    · assumption
    · exact ih _

@[simp] theorem settle_signals (s : State) : (settle s).signals = [] := settleN_signals 4096 s

end Sys2Proof.Machine
end

