-- ==== Sys2Proof/Tests/Slice0.lean ====
section
/-! SUPPORT. Small tests: the checks of well-formedness, worked examples of the manual, and for every statement with hypotheses a state
and operands that meet them, clause by clause. -/

namespace Sys2Proof.Tests

open Sys2Proof.Machine

/-! ### Ill-formed commands are refused -/

theorem test_short_config_refused : (Instr.run 0 0 (.data [0])).wellFormed = false := by decide
theorem test_named_register_is_not_ignored : (Instr.registerWriteIgnored 0x20 8 0).wellFormed = false := by decide
theorem test_wide_value_refused : (Instr.registerWriteIgnored 0x20 1 256).wellFormed = false := by decide
theorem test_zero_width_refused : (Instr.registerWriteIgnored 0 0 0).wellFormed = false := by decide
theorem test_short_sheet_header_refused : (Instr.sheetRead (.data []) .error).wellFormed = false := by decide
theorem test_broken_entries_refused : (Instr.sheetRead .error (.data [0])).wellFormed = false := by decide
theorem test_short_job_record_refused : (Instr.admitJob (.data []) .error).wellFormed = false := by decide
theorem test_short_profile_refused : (Instr.setProfile (.data [0])).wellFormed = false := by decide
theorem test_short_disc_record_refused : (Instr.rosterRecordRead (.data [0])).wellFormed = false := by decide
theorem test_nine_rates_refused : (Instr.media 0 0 true 0 (List.replicate 9 75)).wellFormed = false := by decide
theorem test_held_message_checked :
    (Instr.linkDown 0 [.media 0 true 0 (List.replicate 9 75)]).wellFormed = false := by decide
theorem test_short_sector_refused : (Instr.rdata 0 0 .ok [0]).wellFormed = false := by decide
theorem test_fourth_attempt_refused : (Instr.fillReadTimeout 0 3 0).wellFormed = false := by decide
theorem test_read_beyond_page_refused : (Instr.fillReadDone 0 0 32 .error).wellFormed = false := by decide
theorem test_page_read_size_checked : (Instr.fillReadDone 0 0 0 (.data [0])).wellFormed = false := by decide
theorem test_faulty_sectors_rise : (Instr.diagCompareDone 0 [2, 1]).wellFormed = false := by decide
theorem test_height_in_travel : (Instr.contactTrip 24000 ⟨false, false, false⟩).wellFormed = false := by decide
theorem test_line_on_label : (Instr.lineReadTimeout 0 1344 1).wellFormed = false := by decide
theorem test_line_attempt_from_one : (Instr.lineReadDone 0 0 0 .error).wellFormed = false := by decide
theorem test_line_size_checked : (Instr.lineReadDone 0 0 1 (.data [0])).wellFormed = false := by decide

/-! ### The manual's worked examples of the strobe (9.8) -/

/-- The profile of 9.8, by line period and factor. -/
def profile (kt : Int) (period : Nat) : Profile :=
  ⟨[0, 0, 0, 0, 0, 0, 0, 152, 124, 0, 0, 0, 0, 0, 0, -60, -100], 240, kt, 800, 24000, 18000, 300, 1500, 208, 176, period⟩

theorem test_strobe_at_working_temperature :
    strobe (profile 20 2500) ⟨470, 2900⟩ = .pulse 681 553 468 2500 false := by decide
theorem test_strobe_cold_on_sagging_supply :
    strobe (profile 40 1200) ⟨1000, 2400⟩ = .pulse 1500 1219 1031 1520 true := by decide
theorem test_strobe_low_supply : strobe (profile 40 1200) ⟨1000, 2240⟩ = .lowSupply 17920 := by decide
theorem test_strobe_sensor_fault : strobe (profile 20 2500) ⟨1023, 2900⟩ = .sensor := by decide
theorem test_phases_of_working_line :
    (Strike.mk 681 553 468 2500 false []).length 1 = 468 ∧ (Strike.mk 681 553 468 2500 false []).length 2 = 85 ∧
      (Strike.mk 681 553 468 2500 false []).length 3 = 128 := by decide

/-! ### Small states -/

/-- A part in a state, with a window of 1 MiB at address 0. -/
def part (p : PartState) : State := { State.reset with port := { Port.reset with part := p, windowSize := 0x100000 } }

/-- A RUNNING part whose taken sheet holds one entry. -/
def atEntry (e : List Byte) (s : State) : State :=
  { s with port := { s.port with part := .running, current := some ⟨0x20000, some [e], 0⟩ } }

/-- An entry of a kind with its request fields from offset 8. -/
def entry (kind : Nat) (fields : List Byte) : List Byte := byte kind ++ List.replicate 7 0 ++ fields

/-- A job record of one copy of a one-sector image for lane 0, verify mode off. -/
def record : JobRecord := ⟨0x20000, 1, 1, 1, .a, 1, 0, 0, .off, 0, 0, 0, false, 0, [], none⟩

/-- A job slot in a state with that record. -/
def job (st : JobState) : Job := { Job.reset with state := st, record := some record }

/-- A pending disc of slot 0 on lane 0. -/
def disc : DiscRecord := { freshRecord 0 0 with outcome := .pending }

/-- A part with slot 0 running, disc 0 pending, lane 0 as given and its port UP. -/
def laneState (l : Lane) : State :=
  (((part .running).setJob 0 (job .running)).setDisc 0 (some disc)).setLink 0 ⟨true, 0, []⟩ |>.setLane 0 l

/-- A lane in a state with disc 0 of slot 0 in its tray. -/
def lane (st : LaneState) : Lane := { Lane.reset with state := st, disc := some ⟨0, 0⟩, inTray := true }

/-- The bytes of a job record: a one-sector image at 0x20000, one copy, for lane 0. -/
def recordBytes (flags : Nat) : List Byte :=
  dword 0x20000 ++ word 1 ++ half 1 ++ byte 1 ++ byte 0 ++ half 1 ++ half 0 ++ byte 0 ++ byte 0 ++ [0, 0, 0, 0] ++ byte flags

/-! ### Witnesses: steps and the port -/

theorem witness_StepTakesFrontCommand :
    ({ State.reset with pending := [.causeRead] } : State).pending = .causeRead :: [] ∧ State.reset.pending = [] ∧
      State.reset.signals = [] ∧ (State.reset.emit .stalls).signals = .stalls :: [] := ⟨rfl, rfl, rfl, rfl⟩

/-- The bytes of a legal profile, each field at the least value allowed. -/
def profileBytes : List Byte :=
  List.replicate 38 0 ++ half 200 ++ half 10000 ++ half 5000 ++ half 50 ++ half 50 ++ half 64 ++ half 64 ++ half 1000

/-- The bytes of a configuration block after its version: spindles of one disc, dead time 4, a legal profile. -/
def configRest : List Byte :=
  List.replicate 11 0 ++ half 1 ++ List.replicate 6 0 ++ half 1 ++ List.replicate 6 0 ++ half 1 ++ List.replicate 6 0 ++ half 1 ++
    List.replicate 140 0 ++ [4, 0] ++ List.replicate 76 0 ++ profileBytes

theorem test_config_is_legal : configLegal (configOfBytes (fitBytes 4096 (Config.layoutVersion :: configRest))) = true := by
  have hv : (configOfBytes (fitBytes 4096 (Config.layoutVersion :: configRest))).version = Config.layoutVersion.toNat := by
    show leNat [Config.layoutVersion, 0, 0, 0] = _
    simp [leNat]
  have hs : ((configOfBytes (fitBytes 4096 (Config.layoutVersion :: configRest))).stations.toList.all fun st =>
      decide (st.swing ≤ 51199) && decide (st.lift ≤ 23999)) = true := by decide
  unfold configLegal
  rw [hv, hs]
  simp only [decide_true, Bool.true_and]
  decide

theorem test_empty_config_is_illegal : configLegal (configOfBytes (fitBytes 4096 [])) = false := by
  have hc : (((configOfBytes (fitBytes 4096 [])).stations.toList.take 4).all fun st =>
      decide (1 ≤ st.capacity ∧ st.capacity ≤ 150)) = false := by decide
  unfold configLegal
  simp only [hc, Bool.and_false, Bool.false_and]

theorem witness_RunJudged :
    (part .stopped).port.part = .stopped ∧ windowValid (part .stopped).port = true ∧ (part .starting).port.part ≠ .stopped ∧
      windowValid State.reset.port = false ∧ Memory.wf (part .stopped).host = true := by decide

theorem witness_StopCommandJudged :
    Settled (part .running) ∧ (part .running).port.stopPending = false ∧ (∀ j, ((part .running).job j).state = .free) ∧
      (part .running).transport.arm ≠ .idle ∧
      (let s : State := { part .running with transport := { Transport.reset with arm := .idle } }
       s.transport.arm = .idle ∧ ∀ r, s.queued r = none) ∧
      (part .starting).port.part ≠ .running ∧ (((part .running).setJob 7 (job .done)).job 7).state ≠ .free ∧
      (let s : State := { part .running with
        port := { (part .running).port with stopPending := true }, transport := { Transport.reset with arm := .idle } }
       s.port.stopPending = true ∧ s.transport.arm = .idle ∧ ∀ r, s.queued r = none) :=
  ⟨rfl, by decide, by decide, by decide, by decide, by decide, by decide, by decide⟩

theorem witness_RegisterWritesTakeEffect :
    (part .stopped).port.part = .stopped ∧ (part .faulted).port.part ≠ .stopped ∧ State.reset.port.windowSize = 0 := by decide

theorem witness_SheetWriteHandsOver :
    let p := (part .running).port
    let q := { p with current := some ⟨0x20000, none, 0⟩ }
    (p.windowBase.toNat + 0x18000 ≤ (0x18000 : BitVec 64).toNat ∧
      (0x18000 : BitVec 64).toNat + 4160 ≤ p.windowBase.toNat + p.windowSize.toNat ∧ (0x18000 : BitVec 64).toNat % 64 = 0) ∧
    (0xFEFC0 : BitVec 64).toNat + 4160 = p.windowBase.toNat + p.windowSize.toNat ∧ (0xFEFC0 : BitVec 64).toNat % 64 = 0 ∧
    ¬ (p.windowBase.toNat + 0x18000 ≤ (0x17FC0 : BitVec 64).toNat) ∧ p.current = none ∧ q.current ≠ none ∧ q.next = none ∧
    ({ q with next := some 0x21080 } : Port).next ≠ none ∧ (0x20000 : BitVec 64).toNat % 64 = 0 := by decide

theorem witness_OtherAccessesIgnored :
    writeIgnored 0x28 8 = true ∧ writeIgnored 0x20 4 = true ∧ (4 ≠ 8) ∧ (0x30 ∉ [0x00, 0x08, 0x10, 0x18, 0x20, 0x28]) ∧
      (0x3F0100 : BitVec 64).toNat % 4 = 0 ∧ (0x3F0101 : BitVec 64).toNat % 4 = 1 ∧ (0x3F0102 : BitVec 64).toNat % 4 = 2 ∧
      (0x3F0103 : BitVec 64).toNat % 4 = 3 := by decide

/-- CONTROL writes bit by bit from 11.2: log class enables 63, cause enables 1, then each command code. -/
theorem test_control_write_decodes :
    decodeRegisterWrite 0x08 8 0x3F0100 .error ⟨false, false, false⟩ = .enablesWrite 1 63 ∧
      decodeRegisterWrite 0x08 8 0x3F0101 .error ⟨false, false, false⟩ = .run 1 63 .error ∧
      decodeRegisterWrite 0x08 8 0x3F0102 .error ⟨false, false, false⟩ = .stop 1 63 ∧
      decodeRegisterWrite 0x08 8 0x3F0103 .error ⟨false, false, false⟩ = .softReset 1 63 ⟨false, false, false⟩ := by decide

/-- A part with a sheet not yet taken. -/
def untaken : State := { part .running with port := { (part .running).port with current := some ⟨0x20000, none, 0⟩ } }

theorem witness_SheetReadJudged :
    MemoriesWf untaken ∧ untaken.port.current = some ⟨0x20000, none, 0⟩ ∧ fieldAt [2] 0 1 ≠ 1 ∧
      (fieldAt [1, 0] 0 1 = 1 ∧ fieldAt [1, 0] 1 1 < 1) ∧ 32 < fieldAt [1, 33] 1 1 ∧
      (fieldAt [1, 1] 0 1 = 1 ∧ 1 ≤ fieldAt [1, 1] 1 1 ∧ fieldAt [1, 32] 1 1 ≤ 32) :=
  ⟨⟨rfl, rfl⟩, by decide, by decide, by decide, by decide, by decide⟩

theorem witness_EntryResultWritten :
    MemoriesWf (atEntry [] (part .running)) ∧
      (atEntry [] (part .running)).port.current = some ⟨0x20000, some [[]], 0⟩ ∧ [([] : List Byte)].length ≤ 0 + 1 ∧
      0 + 1 < [([] : List Byte), []].length := ⟨⟨rfl, rfl⟩, rfl, by decide, by decide⟩

/-! ### Witnesses: requests -/

theorem witness_RequestsJudgedFirst :
    let s := { atEntry (entry 2 [8]) (part .running) with port := { (atEntry (entry 2 [8]) (part .running)).port with part := .faulted } }
    requestKind .holdJob = some .holdJob ∧ nextEntry s = some (entry 2 [8]) ∧ entryKind (entry 2 [8]) = some .holdJob ∧
      s.port.part ≠ .running ∧ entryKind (entry 0 []) = none ∧ entryKind (entry 16 []) = none ∧
      AtEntry .holdJob (entry 2 [8]) (atEntry (entry 2 [8]) (part .running)) ∧ 8 ≤ fieldAt (entry 2 [8]) 8 1 :=
  ⟨rfl, rfl, rfl, by decide, rfl, rfl, ⟨rfl, rfl, rfl⟩, by decide⟩

/-- ADMIT_JOB for slot 7 with its record at 0x18000. -/
def admitEntry : List Byte := entry 1 (7 :: List.replicate 7 0 ++ dword 0x18000)

theorem witness_AdmitInstallsJob :
    let s := atEntry admitEntry (part .running)
    let b := fitBytes 320 (recordBytes 0)
    AtEntry .admitJob admitEntry s ∧ reqSlot admitEntry = some 7 ∧ s.port.stopPending = false ∧ (s.job 7).state = .free ∧
      windowCheck s.port (reqAddress admitEntry) 320 = true ∧ extentsInside s.port (jobExtents b) = true ∧
      jobFieldsLegal b = true ∧ substListOf b = some [] ∧ overlayLegal b [] = true ∧
      readStrip (jobExtents b) .error = some [] ∧ recStartHeld b = false ∧ recStartHeld (fitBytes 320 (recordBytes 2)) = true :=
  ⟨⟨rfl, rfl, rfl⟩, by decide, by decide, by decide, by decide, by decide, by decide, by decide, by decide, by decide, by decide,
    by decide⟩

/-- A RUNNING part with that job in slot 0 and in slot 7, and lane 0 IDLE. -/
def dispatching : State :=
  (((part .running).setJob 0 (job .running)).setJob 7 (job .running)).setLane 0 { Lane.reset with state := .idle }

theorem witness_AdmitDispatches :
    dispatching.port.part ≠ .stopped ∧ mayIssue dispatching 0 0 = true ∧ (∀ k, mayIssue dispatching k 0 = true → k = 0 ∨ k = 7) ∧
      ranksBefore dispatching 0 0 = true ∧ ranksBefore dispatching 0 7 = true ∧ (dispatching.job 0).record = some record ∧
      dispatching.disc 0 = none ∧ (∀ k : DiscNo, k < 0 → dispatching.disc k ≠ none) ∧
      (∀ j, mayIssue dispatching j 15 = false) := by
  refine ⟨by decide, by decide +kernel, by decide +kernel, by decide, by decide, by decide, by decide, ?_, by decide +kernel⟩
  intro k h
  exact absurd h (by simp)

theorem witness_AdmitRefusesInOrder :
    let s := atEntry admitEntry (part .running)
    Settled s ∧ AtEntry .admitJob admitEntry s ∧ reqSlot (entry 1 [8]) = none ∧
      extentsInside s.port (jobExtents (fitBytes 320 [])) = false ∧
      (let b := fitBytes 320 (dword 0x20000)
       extentsInside s.port (jobExtents b) = true ∧ jobFieldsLegal b = false) ∧
      (let b := fitBytes 320 (recordBytes 0 ++ [9])
       jobFieldsLegal b = true ∧ substListOf b = none) ∧
      (let b := fitBytes 320 (recordBytes 5 ++ [0, 0, 0, 0, 0] ++ dword 0x20000 ++ half 1 ++ [8, 8, 0, 0, 0, 0] ++ dword 0x20000)
       extentsInside s.port (jobExtents b) = true ∧ jobFieldsLegal b = true ∧ substListOf b = some [] ∧ overlayLegal b [] = false) ∧
      windowCheck s.port 0x17FFF 320 = false :=
  ⟨rfl, ⟨rfl, rfl, rfl⟩, by decide, by decide, by decide, by decide, by decide, by decide⟩

theorem witness_AdmitStripReadFails :
    let b := fitBytes 320 (recordBytes 5 ++ [1, 0, 0, 0, 0] ++ dword 0x20000 ++ half 8 ++ [8, 8, 0, 0, 0, 0] ++ dword 0x20000 ++
      List.replicate 8 0 ++ List.replicate 6 0 ++ [1, 1, 1])
    jobFieldsLegal b = true ∧ overlayLegal b [⟨0, 0, 1, .serial 1⟩] = true ∧ substListOf b = some [⟨0, 0, 1, .serial 1⟩] ∧
      readStrip (jobExtents b) .error = none := by decide

/-- A part whose next entry is a request for slot 0, with a job there in a state. -/
def jobRequest (kind : Nat) (st : JobState) : State := atEntry (entry kind [0]) ((part .running).setJob 0 (job st))

theorem witness_HoldAndResumeJob :
    Settled (jobRequest 2 .running) ∧ reqSlot (entry 2 [0]) = some 0 ∧ AtEntry .holdJob (entry 2 [0]) (jobRequest 2 .running) ∧
      ((jobRequest 2 .draining).job 0).state = .draining ∧ ((jobRequest 2 .done).job 0).state ≠ .running ∧
      AtEntry .resumeJob (entry 3 [0]) (jobRequest 3 .held) ∧ ((jobRequest 3 .held).job 0).state = .held ∧
      serialSpent ((jobRequest 3 .held).job 0) = false ∧ ((jobRequest 3 .held).job 0).sum < ((jobRequest 3 .held).job 0).copies ∧
      ((jobRequest 3 .running).job 0).state ≠ .held ∧ reqSlot (entry 2 [8]) = none ∧ reqSlot (entry 3 [255]) = none :=
  ⟨rfl, by decide, ⟨rfl, rfl, rfl⟩, by decide, by decide, ⟨rfl, rfl, rfl⟩, by decide, by decide, by decide, by decide, by decide,
    by decide⟩

theorem witness_AbortJobTaken :
    Settled (jobRequest 4 .held) ∧ AtEntry .abortJob (entry 4 [0]) (jobRequest 4 .held) ∧ reqSlot (entry 4 [0]) = some 0 ∧
      ((jobRequest 4 .held).job 0).state = .held ∧ ((jobRequest 4 .aborting).job 0).state = .aborting :=
  ⟨rfl, ⟨rfl, rfl, rfl⟩, by decide, by decide, by decide⟩

theorem witness_ClearJobFreesSlot :
    Settled (jobRequest 5 .done) ∧ AtEntry .clearJob (entry 5 [0]) (jobRequest 5 .done) ∧ reqSlot (entry 5 [0]) = some 0 ∧
      ((jobRequest 5 .done).job 0).state = .done ∧ ((jobRequest 5 .aborted).job 0).state = .aborted ∧
      (∀ n, ((jobRequest 5 .done).lane n).diag = none) ∧ ((jobRequest 5 .held).job 0).state ≠ .done ∧
      ((((jobRequest 5 .done).setLane 15 { Lane.reset with diag := some ⟨0, 0, 0, none, 0, 0, 0, 0, 0, none⟩ }).lane 15).diag.map
        (·.slot)) = some 0 ∧ reqSlot (entry 5 [8]) = none :=
  ⟨rfl, ⟨rfl, rfl, rfl⟩, by decide, by decide, by decide, by decide, by decide, by decide, by decide⟩

/-- EXCHANGE_LABEL for slot 0 with a raster of `lines` lines at 0x20000. -/
def exchangeEntry (lines : Nat) : List Byte := entry 6 ([0, 0] ++ half lines ++ [0, 0, 0, 0] ++ dword 0x20000)

/-- A part whose next entry is that request, with a printing job in slot 0. -/
def exchangeState (lines : Nat) : State :=
  atEntry (exchangeEntry lines) ((part .running).setJob 0
    { job .running with record := some { record with print := true, overlay := some ⟨8, 8, 0, 0⟩ }, raster := some (0x30000, 8) })

theorem witness_ExchangeLabelTaken :
    let s := exchangeState 8
    Settled s ∧ AtEntry .exchangeLabel (exchangeEntry 8) s ∧ reqSlot (exchangeEntry 8) = some 0 ∧ (s.job 0).state ≠ .free ∧
      windowCheck s.port (reqAddress (exchangeEntry 8)) (reqLines (exchangeEntry 8) * 168) = true ∧ reqLines (exchangeEntry 8) = 8 ∧
      overlayFits { record with overlay := some ⟨8, 8, 0, 0⟩ } 8 = true ∧
      overlayFits { record with overlay := some ⟨8, 8, 0, 0⟩ } 7 = false ∧ reqLines (exchangeEntry 0) < 1 ∧
      1344 < reqLines (exchangeEntry 1345) ∧ windowCheck s.port 0x17000 1344 = false ∧ ((part .running).job 0).record = none :=
  ⟨rfl, ⟨rfl, rfl, rfl⟩, by decide, by decide, by decide, by decide, by decide, by decide, by decide, by decide, by decide, by decide⟩

/-- RELEASE_DISCS of discs 0 and 255. -/
def releaseRequest : List Byte := entry 7 (2 :: List.replicate 7 0 ++ half 0 ++ half 255)

theorem witness_ReleaseDiscsTaken :
    let s := (atEntry releaseRequest (part .running)).setDisc 0 (some { disc with outcome := .good, location := .output })
    Settled s ∧ AtEntry .releaseDiscs releaseRequest s ∧ 1 ≤ reqCount releaseRequest ∧ reqCount releaseRequest ≤ 24 ∧
      reqCount (entry 7 [0]) < 1 ∧ 24 < reqCount (entry 7 [25]) ∧ reqIndex releaseRequest 0 = (0 : DiscNo).val ∧
      reqIndex releaseRequest 1 = (255 : DiscNo).val ∧ s.disc 255 = none ∧ (s.disc 0).map releasable = some true ∧
      256 ≤ reqIndex (entry 7 (1 :: List.replicate 7 0 ++ half 256)) 0 ∧ disc.outcome ∉ [.good, .rejected] ∧
      ({ disc with outcome := .rejected, location := .arm } : DiscRecord).location ∉ [.output, .reject] :=
  ⟨rfl, ⟨rfl, rfl, rfl⟩, by decide, by decide, by decide, by decide, by decide, by decide, by decide, by decide, by decide, by decide,
    by decide⟩

/-- A part whose next entry is a lane request for lane 15, in a state and enabled or not. -/
def laneRequest (e : List Byte) (st : LaneState) (on : Bool) : State :=
  atEntry e ((part .running).setLane 15 { Lane.reset with state := st, enabled := on })

theorem witness_SetLaneTaken :
    let e := entry 8 [15, 1, 75, 0]
    let d := entry 8 [15, 0, 0, 0]
    Settled (laneRequest e .idle true) ∧ AtEntry .setLane e (laneRequest e .idle true) ∧ reqLane e = some 15 ∧
      capLegal (reqCap e) = true ∧ reqEnable e = true ∧ ((laneRequest e .idle true).lane 15).state ≠ .offline ∧
      AtEntry .setLane d (laneRequest d .idle true) ∧ reqEnable d = false ∧ ((laneRequest d .idle true).lane 15).enabled = true ∧
      ((laneRequest d .idle false).lane 15).enabled = false ∧ 16 ≤ fieldAt (entry 8 [16]) 8 1 ∧
      capLegal (reqCap (entry 8 [15, 1, 74, 0])) = false ∧ ((laneRequest e .offline false).lane 15).state = .offline ∧
      ((laneRequest e .offline false).lane 15).verify.unit = none ∧ ((laneRequest e .faulted false).lane 15).state = .faulted ∧
      ((laneRequest e .faulted false).lane 15).waits.tray = none ∧ ((laneRequest e .faulted false).link 15).up = false ∧
      (((laneRequest e .faulted false).setLink 15 ⟨true, 0, []⟩).link 15).up = true ∧
      ((laneRequest d .unloadWait true).lane 15).state ∈ [.unknown, .offline, .unloadWait, .trayUnload, .faulted] :=
  ⟨rfl, ⟨rfl, rfl, rfl⟩, by decide, by decide, by decide, by decide, ⟨rfl, rfl, rfl⟩, by decide, by decide, by decide, by decide,
    by decide, by decide, by decide, by decide, by decide, by decide, by decide, by decide⟩

/-- Lane 0 enabled in a state with disc 0, whose record is as given, at a SET_LANE that disables it. -/
def disabling (st : LaneState) (x : DiscRecord) : State :=
  atEntry (entry 8 [0, 0, 0, 0]) ((laneState { lane st with enabled := true }).setDisc 0 (some x))

theorem witness_SetLaneEndsLoads :
    let q := (disabling .loadWait { disc with outcome := .reserved }).setQueued 0 (some ⟨.load, 0, 0, trayOf 0, 0, 0⟩)
    AtEntry .setLane (entry 8 [0, 0, 0, 0]) q ∧ Settled q ∧ (q.lane 0).state = .loadWait ∧ (q.lane 0).disc = some ⟨0, 0⟩ ∧
      q.queued (requesterOf 0) = some ⟨.load, 0, 0, trayOf 0, 0, 0⟩ ∧ (q.lane 0).refuse ≠ some .driveFault ∧
      (q.lane 0).verify.unit = none ∧ (q.lane 0).enabled = true ∧ reqLane (entry 8 [0, 0, 0, 0]) = some 0 ∧
      (disabling .loadWait disc).queued (requesterOf 0) = none ∧ discPending (disabling .loadWait disc) 0 = true ∧
      discPending (disabling .loadWait { disc with outcome := .reserved }) 0 = false ∧
      ((disabling .writing disc).lane 0).state ∈ [.trayLoad, .probing, .negotiating, .writing, .closing, .verifying] :=
  ⟨⟨rfl, rfl, rfl⟩, rfl, by decide, by decide, by decide, by decide, by decide, by decide, by decide, by decide, by decide, by decide,
    by decide⟩

theorem witness_TakeCountsReturnsCounters :
    let s := laneRequest (entry 9 [15]) .writing true
    Settled s ∧ AtEntry .takeCounts (entry 9 [15]) s ∧ reqLane (entry 9 [15]) = some 15 ∧ 16 ≤ fieldAt (entry 9 [16]) 8 1 :=
  ⟨rfl, ⟨rfl, rfl, rfl⟩, by decide, by decide⟩

theorem witness_DiagnoseLaneTaken :
    let e := entry 10 [15, 0, 1, 0]
    let s := (laneRequest e .offline false).setJob 0 (job .running)
    Settled s ∧ AtEntry .diagnoseLane e s ∧ reqLane e = some 15 ∧ reqDiagSlot e = some 0 ∧ (s.lane 15).diag = none ∧
      (s.lane 15).state = .offline ∧ (s.job 0).state ≠ .free ∧
      (1 ≤ reqPageCount e ∧ reqPageCount e ≤ 64 ∧ reqFirstPage e + reqPageCount e ≤ pageCount (imageSectors s 0)) ∧
      ¬ (reqPageCount (entry 10 [15, 0, 65, 0]) ≤ 64) ∧ reqLane (entry 10 [16]) = none ∧ reqDiagSlot (entry 10 [15, 8]) = none ∧
      ((laneRequest e .writing true).lane 15).state ≠ .idle ∧ ((laneRequest e .idle true).job 0).state = .free :=
  ⟨rfl, ⟨rfl, rfl, rfl⟩, by decide, by decide, by decide, by decide, by decide, by decide, by decide, by decide, by decide, by decide,
    by decide⟩

theorem witness_SpindleRequestsTaken :
    let e := entry 11 [1, 0, 0, 0]
    let f := entry 12 [1]
    AtEntry .refill e (atEntry e (part .running)) ∧ Settled (atEntry e (part .running)) ∧ reqInput e = some .b ∧
      reqFill e ≤ ((part .running).station (spindleStation .b)).capacity ∧
      ((part .running).station (spindleStation .b)).capacity < reqFill (entry 11 [1, 0, 1, 0]) ∧ reqInput (entry 11 [2]) = none ∧
      AtEntry .emptied f (atEntry f (part .running)) ∧ reqEmptied f = some 3 ∧ reqEmptied (entry 12 [2]) = none ∧
      (dispatching.job 0).record = some record ∧ (dispatching.job 0).state = .running ∧
      (dispatching.job 0).good + (dispatching.job 0).inFlight + (dispatching.job 0).reserved < record.copies ∧
      record.copies ≤ ({ job .running with reserved := 1 } : Job).sum ∧ (State.reset.job 0).record = none :=
  ⟨⟨rfl, rfl, rfl⟩, rfl, by decide, by decide, by decide, by decide, ⟨rfl, rfl, rfl⟩, by decide, by decide, by decide, by decide,
    by decide, by decide, by decide⟩

theorem witness_ClearAndProfileRequestsTaken :
    let e := entry 13 []
    let f := entry 14 []
    let g := entry 15 (List.replicate 8 0 ++ dword 0x18000)
    let s : State := { atEntry e (part .running) with transport := { Transport.reset with arm := .stopped } }
    let t : State := { atEntry f (part .running) with printer := { Printer.reset with state := .faulted } }
    let u := atEntry g (part .running)
    Settled s ∧ AtEntry .clearTransport e s ∧ s.transport.arm = .stopped ∧ s.pins.stop = false ∧
      AtEntry .clearPrinter f t ∧ t.printer.state = .faulted ∧ t.printer.disc = none ∧ (t.entry 4).occupancy ≠ .empty ∧
      AtEntry .setProfile g u ∧ u.printer.state = .empty ∧ windowCheck u.port (reqAddress g) 64 = true ∧
      profileLegal (profileOfBytes (fitBytes 64 profileBytes)) = true ∧ profileLegal (profileOfBytes (fitBytes 64 [])) = false :=
  ⟨rfl, ⟨rfl, rfl, rfl⟩, by decide, by decide, ⟨rfl, rfl, rfl⟩, by decide, by decide, by decide, ⟨rfl, rfl, rfl⟩, by decide, by decide,
    by decide, by decide⟩

/-! ### Witnesses: start-up, the STOP input and the links -/

/-- A part in STARTING whose clean has reached a record. -/
def cleaning (i : Nat) : State := { part .starting with roster := { Roster.reset with clean := some i } }

theorem witness_RosterCleanActs :
    (cleaning 254).port.part = .starting ∧ (cleaning 254).roster.clean = some (254 : DiscNo).val ∧
      (cleaning 255).roster.clean = some (255 : DiscNo).val ∧ fieldAt (fitBytes 128 []) 0 1 = 0 ∧
      fieldAt (fitBytes 128 [4]) 0 1 = DiscOutcome.good.code ∧ fieldAt (fitBytes 128 [5, 4]) 0 1 = DiscOutcome.rejected.code ∧
      (discOfBytes .rejected (fitBytes 128 [5, 4])).location = .reject ∧
      (discOfBytes .rejected (fitBytes 128 [5, 3])).location ≠ .reject ∧
      fieldAt (fitBytes 128 [3]) 0 1 = DiscOutcome.passed.code ∧ 5 < fieldAt (fitBytes 128 [6]) 0 1 ∧
      (cleaning 255).pins.stop = false := by decide

theorem witness_StopInputTaken :
    let s : State := { part .starting with
      pins := ⟨true, false⟩, transport := { Transport.reset with arm := .stopped, homeDue := true } }
    s.pins.stop = true ∧ (part .running).pins.stop = false ∧ s.port.part = .starting ∧ s.transport.homeDue = true ∧
      s.roster.clean = none ∧ s.transport.current = none ∧
      ¬ ((part .running).port.part = .starting ∧ (part .running).transport.homeDue = true ∧ (part .running).roster.clean = none) := by
  decide

theorem witness_LinkFramesAndUpTaken :
    Settled (part .running) ∧ ((part .running).link 15).up = false ∧ ((part .running).lane 15).state ≠ .faulted ∧
      ((((part .running).setLane 15 { Lane.reset with state := .faulted }).lane 15).state = .faulted ∧
        (((part .running).setLane 15 { Lane.reset with state := .faulted }).lane 15).waits.tray = none) ∧
      ((laneState (lane .idle)).link 0).up = true ∧ ((laneState (lane .idle)).link 0).fails < 8 :=
  ⟨rfl, by decide, by decide, by decide, by decide, by decide⟩

theorem witness_LinkDownTaken :
    let s := (laneState (lane .probing)).setLink 0 ⟨true, 7, [.probe]⟩
    (s.link 0).up = true ∧ 7 ≤ (s.link 0).fails ∧ (s.lane 0).state ∉ [.unknown, .offline, .loadWait] ∧
      ((laneState (lane .idle)).link 0).fails < 7 ∧ ((laneState (lane .offline)).lane 0).state = .offline := by decide

/-! ### Witnesses: drive messages -/

/-- Lane 0 probing its disc and waiting for MEDIA. -/
def probing : State := laneState { lane .probing with waits := { Waits.none with media := some 0 } }

theorem witness_MediaJudged :
    (probing.link 0).up = true ∧ (probing.lane 0).state = .probing ∧ (probing.lane 0).waits.media ≠ none ∧
      (probing.lane 0).disc = some ⟨0, 0⟩ ∧ laneRecord probing 0 = some record ∧ (1 : BitVec 8).toNat = record.mediaClass ∧
      (2 : BitVec 8).toNat ≠ record.mediaClass ∧ record.imageSectors ≤ (1 : BitVec 32).toNat ∧
      (0 : BitVec 32).toNat < record.imageSectors ∧ keptRates [75, 32767] ≠ [] ∧ keptRates [74, 32768] = [] ∧
      highestBelow (keptRates [75, 32767]) (discCeiling (probing.lane 0).cap record.speedCap (keptRates [75, 32767]) + 1) = some 32767 ∧
      highestBelow (keptRates [76]) (discCeiling 75 record.speedCap (keptRates [76]) + 1) = none ∧ keptRates [76] ≠ [] ∧
      ((laneState (lane .writing)).lane 0).state ≠ .probing := by decide

/-- Lane 0 in a state with a speed request outstanding. -/
def asking (st : LaneState) (why : SpeedPurpose) : State :=
  laneState { lane st with offered := [75, 150], rate := some 150, speedReq := some ⟨150, why, 0⟩ }

theorem witness_SpeedAnswersTaken :
    ((asking .negotiating .negotiate).link 0).up = true ∧
      ((asking .negotiating .negotiate).lane 0).speedReq = some ⟨150, .negotiate, 0⟩ ∧
      ((asking .negotiating .negotiate).lane 0).state = .negotiating ∧ 150 = (150 : BitVec 16).toNat ∧
      ((asking .writing .downshift).lane 0).speedReq = some ⟨150, .downshift, 0⟩ ∧ ((asking .writing .upshift).lane 0).state = .writing ∧
      highestBelow ((asking .writing .downshift).lane 0).offered 150 = some 75 ∧ highestBelow [75] 75 = none ∧
      ((asking .writing .upshift).lane 0).speedReq.map (·.rate) ≠ some (75 : BitVec 16).toNat ∧
      ((asking .negotiating .negotiate).lane 0).disc = some ⟨0, 0⟩ ∧ ((asking .writing .downshift).lane 0).rate = some 150 ∧
      highestBelow [150] 150 = none := by decide

theorem witness_SpeedAnswersTakePins :
    pinFinds (part .running) 0 0 ≠ .failed ∧
      pinFinds ((part .running).setFrame 0 { Frame.reset with state := .failed }) 0 0 = .failed := by decide +kernel

/-- Lane 0 writing, OPEN_ACK awaited or taken. -/
def writing (wait : Option Nat) (record' : JobRecord) : State :=
  (laneState { lane .writing with rate := some 75, waits := { Waits.none with openAck := wait } }).setJob 0
    { job .running with record := some record' }

theorem witness_WritingMessagesTaken :
    ((writing none record).link 0).up = true ∧ ((writing (some 0) record).lane 0).state = .writing ∧
      ((writing (some 0) record).lane 0).waits.openAck ≠ none ∧ ((writing (some 0) record).lane 0).disc = some ⟨0, 0⟩ ∧
      (writing (some 0) record).disc 0 = some disc ∧ ((writing none record).lane 0).waits.openAck = none ∧
      (1 ≤ (1 : BitVec 8).toNat ∧ (64 : BitVec 8).toNat ≤ 64) ∧ 64 < (65 : BitVec 8).toNat ∧ (0 : BitVec 8).toNat < 1 ∧
      ((laneState (lane .closing)).lane 0).state = .closing ∧ laneRecord (writing none record) 0 = some record ∧
      record.maxGaps = 0 ∧ satInc max16 0 ≤ 1 ∧
      (laneRecord (laneState { lane .closing with totals := ⟨1, 0, 0⟩ }) 0).isSome = true ∧ 1 < satInc max16 1 ∧
      ((laneState (lane .idle)).lane 0).state ≠ .writing := by decide

/-- Lane 0 closing, CLOSED awaited. -/
def closing (mode : VerifyMode) : State :=
  (laneState { lane .closing with waits := { Waits.none with closed := some 0 } }).setJob 0
    { job .running with record := some { record with verifyMode := mode } }

theorem witness_ClosedEndsWriting :
    ((closing .off).link 0).up = true ∧ ((closing .off).lane 0).state = .closing ∧ ((closing .off).lane 0).waits.closed ≠ none ∧
      ((closing .off).lane 0).disc = some ⟨0, 0⟩ ∧ laneRecord (closing .compare) 0 = some { record with verifyMode := .compare } ∧
      laneRecord (closing .off) 0 = some record ∧ (closing .off).disc 0 = some disc ∧ record.print = false ∧
      ((laneState (lane .idle)).lane 0).state ≠ .closing := by decide

/-- Lane 0 reading a block of two sectors. -/
def verifying : State :=
  laneState { lane .verifying with
    waits := { Waits.none with readBlock := some 0 }, verify := { VerifyState.reset with blockCount := 2 } }

theorem witness_RdataTaken :
    (verifying.link 0).up = true ∧ (List.replicate 2048 (0 : Byte)).length = 2048 ∧
      ((verifying.lane 0).state = .verifying ∧ (verifying.lane 0).waits.readBlock ≠ none ∧
        (verifying.lane 0).verify.blockStart ≤ (1 : BitVec 32).toNat ∧
        (1 : BitVec 32).toNat < (verifying.lane 0).verify.blockStart + (verifying.lane 0).verify.blockCount ∧
        (1 : BitVec 32).toNat ∉ (verifying.lane 0).verify.received) ∧
      (verifying.lane 0).disc = some ⟨0, 0⟩ ∧ laneRecord verifying 0 = some record ∧
      ¬ ((2 : BitVec 32).toNat < (verifying.lane 0).verify.blockStart + (verifying.lane 0).verify.blockCount) :=
  ⟨by decide, List.length_replicate .., by decide, by decide, by decide, by decide⟩

/-- Lane 0 with a tray command outstanding. -/
def trayWaits (c : TrayCmd) (why : TrayPurpose) : State :=
  laneState { lane .trayLoad with waits := { Waits.none with tray := some ⟨c, why, 0⟩ } }

theorem witness_TrayStateTaken :
    ((trayWaits .close .loadClose).link 0).up = true ∧ ((laneState (lane .idle)).lane 0).waits.tray = none ∧
      ((trayWaits .close .loadClose).lane 0).waits.tray = some ⟨.close, .loadClose, 0⟩ ∧
      (∀ f, TrayPurpose.loadClose ≠ .stale f) ∧ ((trayWaits .close .loadClose).lane 0).disc = some ⟨0, 0⟩ ∧
      (trayWaits .close .loadClose).disc 0 = some disc ∧ disc.outcome = .pending ∧
      ((trayWaits .opened .loadOpen).lane 0).waits.tray = some ⟨.opened, .loadOpen, 0⟩ ∧
      ((trayWaits .query (.stale true)).lane 0).waits.tray = some ⟨.query, .stale true, 0⟩ ∧
      ((trayWaits .query .recovery).lane 0).waits.tray = some ⟨.query, .recovery, 0⟩ ∧
      ((trayWaits .opened (.withdrawOpen true)).lane 0).waits.tray = some ⟨.opened, .withdrawOpen true, 0⟩ ∧
      ((trayWaits .close (.withdrawClose true)).lane 0).waits.tray = some ⟨.close, .withdrawClose true, 0⟩ ∧
      ((trayWaits .close .unloadClose).lane 0).waits.tray = some ⟨.close, .unloadClose, 0⟩ ∧
      ((trayWaits .close .loadClose).setDisc 0 (some { disc with outcome := .rejected })).disc 0 =
        some { disc with outcome := .rejected } ∧
      ({ lane .trayLoad with uncounted := some 0 } : Lane).uncounted ≠ none ∧ (lane .trayLoad).uncounted = none :=
  ⟨by decide, by decide, by decide, by simp, by decide, by decide, by decide, by decide, by decide, by decide, by decide, by decide,
    by decide, by decide, by decide, by decide⟩

theorem witness_FaultAndStrayTaken :
    ((part .running).link 0).up = false ∧ ((laneState (lane .probing)).link 0).up = true ∧
      ((laneState (lane .probing)).lane 0).state = .probing ∧ ((laneState (lane .probing)).lane 0).stray ≤ 65535 ∧
      ((laneState (lane .verifying)).lane 0).state ∈ [.negotiating, .verifying] ∧
      ((laneState (lane .trayLoad)).lane 0).state = .trayLoad ∧ ((laneState (lane .trayLoad)).lane 0).disc = some ⟨0, 0⟩ ∧
      (laneState (lane .trayLoad)).disc 0 = some disc ∧ disc.outcome = .pending ∧
      ({ disc with outcome := .rejected } : DiscRecord).outcome ≠ .pending ∧
      ((laneState (lane .closing)).lane 0).state ∈ [.writing, .closing] ∧
      ((laneState (lane .idle)).lane 0).state ∈ [.unknown, .offline, .idle, .loadWait, .unloadWait, .trayUnload, .faulted] := by decide

theorem witness_LaneTimeoutsTaken :
    (probing.lane 0).waits.media = some 0 ∧ ((asking .writing .upshift).lane 0).speedReq = some ⟨150, .upshift, 0⟩ ∧
      ((writing (some 0) record).lane 0).waits.openAck = some 0 ∧
      ((laneState { lane .writing with waits := { Waits.none with starvation := some 0 } }).lane 0).waits.starvation = some 0 ∧
      ((closing .off).lane 0).waits.closed = some 0 ∧ (verifying.lane 0).waits.readBlock = some 0 ∧
      ((trayWaits .close .loadClose).lane 0).waits.tray = some ⟨.close, .loadClose, 0⟩ ∧ Settled (part .running) ∧
      ((part .running).lane 0).waits = Waits.none ∧ ((part .running).lane 0).speedReq = none :=
  ⟨by decide, by decide, by decide, by decide, by decide, by decide, by decide, rfl, rfl, rfl⟩

theorem witness_RejectionEndsDisc :
    let x := { disc with writeStart := some 0, location := .lane 0 }
    let s := (laneState (lane .writing)).setDisc 0 (some x)
    (s.link 0).up = true ∧ (s.lane 0).state ∈ [.trayLoad, .probing, .negotiating, .writing, .closing, .verifying] ∧
      (s.lane 0).disc = some ⟨0, 0⟩ ∧ (s.lane 0).inTray = true ∧ s.disc 0 = some x ∧ x.outcome = .pending ∧
      x.slot = BitVec.ofNat 8 (0 : SlotNo).val ∧ (s.lane 0).verify.stage = .off ∧ (s.lane 0).verify.unit = none ∧
      x.laneUsed = BitVec.ofNat 8 (0 : LaneNo).val ∧ (s.lane 0).uncounted ≠ some 0 ∧
      ((laneState (lane .trayLoad)).lane 0).state = .trayLoad ∧ ((laneState (lane .verifying)).lane 0).state = .verifying := by
  decide

/-! ### Witnesses: copying, sending, fills and compares -/

/-- Lane 0 writing a two-sector image with page 0 RESIDENT in frame 0, one sector in its FIFO and one credit. -/
def copying : State :=
  (((laneState { lane .writing with
      pins := [⟨.write, 0, 0, some 0⟩], fifo := [⟨0, []⟩], credits := 1 }).setJob 0
    { job .running with record := some { record with imageSectors := 2 } })).setFrame 0 { Frame.reset with state := .resident }

theorem witness_SectorsCopiedAndSent :
    (copying.lane 0).disc = some ⟨0, 0⟩ ∧ writeFrame copying 0 ((copying.lane 0).nextCopy / 64) = some 0 ∧
      (copying.lane 0).state = .writing ∧ (copying.lane 0).fifo.length < 32 ∧
      (copying.lane 0).nextCopy + 1 < laneSectors copying 0 ∧ (copying.lane 0).nextCopy % 64 ≠ 63 ∧
      (copying.lane 0).fifo = ⟨0, []⟩ :: [] ∧ laneRecord copying 0 = some { record with imageSectors := 2 } ∧
      (copying.lane 0).waits.openAck = none ∧ 0 < (copying.lane 0).credits ∧ (copying.link 0).up = true ∧
      (copying.lane 0).pace.toward + 1 ≠ 1024 ∧ (copying.lane 0).nextSend + 1 < 2 ∧ laneSectors (laneState (lane .writing)) 0 ≤ 0 + 1 ∧
      ((laneState (lane .closing)).lane 0).state ≠ .writing ∧ ((laneState (lane .writing)).lane 0).credits = 0 := by decide

/-- Lane 0 writing, at the last sector of its two-sector image or one sector before a pace review. -/
def atPageEnd : State :=
  copying.setLane 0 { copying.lane 0 with nextCopy := 1, pace := ⟨0, 0, 0, 1023⟩ }

theorem witness_SectorsCopiedAtPageEnd :
    (atPageEnd.lane 0).nextCopy < laneSectors atPageEnd 0 ∧ (atPageEnd.lane 0).nextCopy + 1 = laneSectors atPageEnd 0 ∧
      63 % 64 = 63 ∧ writeFrame atPageEnd 0 ((atPageEnd.lane 0).nextCopy / 64) = some 0 ∧
      laneSectors atPageEnd 0 ≤ 64 * ((atPageEnd.lane 0).nextCopy / 64 + 3) ∧ 64 * (0 + 3) < 193 ∧
      (atPageEnd.lane 0).pace.toward + 1 = 1024 ∧ (atPageEnd.lane 0).nextSend + 1 < 2 := by decide

theorem witness_PaceReviewed :
    let s := laneState { lane .writing with rate := some 150, offered := [75, 150], pace := ⟨0, 0, 1, 1023⟩ }
    (s.link 0).up = true ∧ (s.lane 0).speedReq = none ∧ (s.lane 0).rate = some 150 ∧ (1 ≠ 0 ∧ 1 ≤ (s.lane 0).pace.windowGaps) ∧
      highestBelow (s.lane 0).offered 150 = some 75 ∧ (s.lane 0).pace.windowGaps < 2 ∧ (s.lane 0).fifo.length < 24 ∧
      ((asking .writing .upshift).lane 0).speedReq ≠ none ∧ highestBelow [150] 150 = none ∧
      (let l := { lane .writing with
        rate := some 75, offered := [75, 150], ceiling := some 150, pace := ⟨0xF8, 3, 0, 0⟩, fifo := List.replicate 24 ⟨0, []⟩ }
       l.speedReq = none ∧ l.pace.windowGaps = 0 ∧ l.pace.history &&& 7 = 0 ∧ 3 ≤ l.pace.reviews ∧ 24 ≤ l.fifo.length ∧
         l.offered.find? (fun x => decide (75 < x)) = some 150 ∧ l.ceiling = some 150 ∧ (∀ x, x ∈ l.offered → x ≤ 150)) := by decide

/-- A fill of a page of three sectors in frame 0, its second read done or not, on an attempt. -/
def filling (attempt : Nat) (released : Bool) : State :=
  { ((part .running).setFrame 0 ⟨.filling, 0, 0, 0, 0, attempt, released⟩) with
    fetch := { Fetch.reset with fills := Fetch.reset.fills.set 0 (some ⟨9, 0, 0x20000, 3, [⟨false, 0⟩, ⟨false, 0⟩]⟩) } }

theorem witness_FillReadsTaken :
    MemoriesWf (filling 0 false) ∧
      liveRead (filling 0 false) 9 0 1 = some (0, ⟨9, 0, 0x20000, 3, [⟨false, 0⟩, ⟨false, 0⟩]⟩, ⟨false, 0⟩) ∧
      liveRead (filling 0 false) 9 1 1 = none ∧ 2 * 1 + 1 = 3 ∧ 2 * 0 + 1 ≠ 3 ∧
      ((0 : Nat) ≠ 1 ∧ ([⟨false, 0⟩, ⟨false, 0⟩] : List FillRead)[0]? = some ⟨false, 0⟩) ∧
      ((filling 0 true).frame 0).released = true ∧ ((filling 2 false).frame 0).released = false ∧
      (liveRead (filling 2 false) 9 2 0).isSome = true ∧
      (∀ (i : Nat) (y : FillRead), i ≠ 0 → ([⟨false, 0⟩] : List FillRead)[i]? = some y → y.done = true) :=
  ⟨⟨rfl, rfl⟩, by decide, by decide, by decide, by decide, by decide, by decide, by decide, by decide, by
    intro i y h hy; cases i with | zero => exact absurd rfl h | succ k => simp at hy⟩

theorem witness_FillsStart :
    let q : State := { part .running with fetch := { Fetch.reset with queue := [⟨0, 0, [0], 0⟩] } }
    q.fetch.fills[(0 : Fin 8)] = none ∧ (∀ i : Fin 8, i < 0 → q.fetch.fills[i] ≠ none) ∧
      chooseRequest q q.fetch.queue = some ⟨0, 0, [0], 0⟩ ∧ (q.frame 0).state = .free ∧ (part .running).fetch.queue = [] :=
  ⟨rfl, by decide, by decide, by decide, rfl⟩

/-- Unit 3 comparing a block of one sector for lane 0, which pins page 0 in frame 0. -/
def comparing (kind : CompareKind) (discard : Bool) (bs : List Byte) : State :=
  (laneState { lane .verifying with pins := [⟨.compare, 0, 0, some 0⟩], fifo := [⟨0, bs⟩] }).setUnit 3
    ⟨.comparing, some 0, kind, 0, 1, 0, none, 0, discard, 0, none⟩

theorem witness_ComparesGrant :
    let r : CompareReq := ⟨15, .disc, 0, 1, 0, none, 0⟩
    let s : State := { part .running with verify := { VerifyEngine.reset with queue := [r] } }
    (s.unit 0).state = .free ∧ (∀ w : UnitNo, w < 0 → (s.unit w).state ≠ .free) ∧ r ∈ s.verify.queue ∧
      (∀ q, q ∈ s.verify.queue → q ≠ r → r.arrival < q.arrival ∨ (r.arrival = q.arrival ∧ r.lane < q.lane)) ∧ r.kind = .disc ∧
      ({ r with kind := .diagnosis } : CompareReq).kind = .diagnosis ∧ pinFinds s 0 0 = .waits ∧
      pinFinds (s.setFrame 0 { Frame.reset with state := .resident }) 0 0 = .ready ∧
      pinFinds (s.setFrame 0 { Frame.reset with state := .failed }) 0 0 = .failed ∧ (part .running).verify.queue = [] := by decide +kernel

theorem witness_ComparesTaken :
    ((comparing .disc false []).unit 0).state ≠ .comparing ∧ ((comparing .disc false []).unit 3).state = .comparing ∧
      ((comparing .disc false []).unit 3).owner = some 0 ∧ ((comparing .disc true []).unit 3).discard = true ∧
      ((comparing .diagnosis false []).unit 3).kind = .diagnosis ∧
      blockEqual { comparing .disc false [] with verify := { VerifyEngine.reset with
        units := (comparing .disc false []).verify.units } } ⟨.comparing, some 0, .disc, 0, 0, 0, none, 0, false, 0, none⟩ 0 = true ∧
      blockEqual (part .running) ⟨.comparing, some 0, .disc, 0, 1, 0, none, 0, false, 0, none⟩ 0 = false := by decide

/-! ### Witnesses: the arm -/

/-- A LOAD for lane 0 in a phase. -/
def loadTask (p : ArmPhase) (cargo : Option Cargo) : ArmTask :=
  ⟨⟨.load, 0, 0, trayOf 0, 0, 0⟩, cargo, p, false, false, false, false⟩

/-- A part whose arm carries out a task. -/
def armDoes (c : ArmTask) : State :=
  { part .running with transport := { Transport.reset with arm := .moving, current := some c, timer := some 0 } }

theorem witness_MoveStepsTaken :
    ArmAt (loadTask (.lift true) none) (.lift true) (armDoes (loadTask (.lift true) none)) ∧
      ArmAt (loadTask (.swing false) none) (.swing false) (armDoes (loadTask (.swing false) none)) ∧
      ArmAt (loadTask (.descend true) none) (.descend true) (armDoes (loadTask (.descend true) none)) ∧
      ArmAt (loadTask (.rise true) none) (.rise true) (armDoes (loadTask (.rise true) none)) ∧
      ArmAt (loadTask (.shake 1) none) (.shake 1) (armDoes (loadTask (.shake 1) none)) ∧
      (loadTask (.lift true) none).finished = false ∧
      (armDoes (loadTask (.lift true) none)).transport.swingPos =
        ((armDoes (loadTask (.lift true) none)).station ((loadTask (.lift true) none).target true)).swing ∧
      ({ (loadTask (.lift true) none) with finished := true } : ArmTask).finished = true ∧
      (part .running).transport.arm ≠ .moving :=
  ⟨⟨rfl, rfl, rfl⟩, ⟨rfl, rfl, rfl⟩, ⟨rfl, rfl, rfl⟩, ⟨rfl, rfl, rfl⟩, ⟨rfl, rfl, rfl⟩, rfl, by decide, rfl, by decide⟩

/-- That arm with its lift at a height. -/
def armAt (c : ArmTask) (h : Nat) : State :=
  { armDoes c with transport := { (armDoes c).transport with liftPos := h } }

theorem witness_MoveStepsEndAtOnce :
    let up := loadTask (.rise false) none
    let down := loadTask (.descend true) (some (.disc 0))
    ArmAt up (.rise false) (armAt up 0) ∧ (armAt up 0).transport.liftPos = 0 ∧ (armAt up 5).transport.liftPos ≠ 0 ∧
      ArmAt down (.descend true) (armAt down 0) ∧
      (armAt down 0).transport.liftPos = ((armAt down 0).station (down.target true)).lift ∧
      (armAt down 5).transport.liftPos ≠ ((armAt down 5).station (down.target true)).lift ∧
      down.finished = false ∧ ({ down with redirect := true } : ArmTask).redirect = true :=
  ⟨⟨rfl, rfl, rfl⟩, rfl, by decide, ⟨rfl, rfl, rfl⟩, by decide, by decide, rfl, rfl⟩

theorem witness_ShakesAndSearchesEnd :
    ArmAt (loadTask (.search false) none) (.search false) (armDoes (loadTask (.search false) none)) ∧
      ArmAt (loadTask (.search true) none) (.search true) (armDoes (loadTask (.search true) none)) ∧
      ArmAt (loadTask (.shake 2) none) (.shake 2) (armDoes (loadTask (.shake 2) none)) ∧
      ArmAt (loadTask (.shake 3) none) (.shake 3) (armDoes (loadTask (.shake 3) none)) ∧ (2 < 3 ∧ 3 ≤ 3) ∧
      (part .running).transport.arm ≠ .moving ∧ (∀ d, (loadTask (.shake 3) none).phase ≠ .search d) :=
  ⟨⟨rfl, rfl, rfl⟩, ⟨rfl, rfl, rfl⟩, ⟨rfl, rfl, rfl⟩, ⟨rfl, rfl, rfl⟩, by decide, by decide, by simp [loadTask]⟩

theorem witness_SpindleGripsAndDrops :
    let c := { (loadTask (.search true) (some (.disc 0))) with task := ⟨.unloadLane, 0, trayOf 0, stationReject, 0, 0⟩ }
    let s := (armDoes c).setDisc 0 (some { disc with outcome := .rejected })
    s.transport.current = some c ∧ c.cargo = some (.disc 0) ∧ c.task.dest = stationReject ∧
      s.disc 0 = some { disc with outcome := .rejected } := by decide

theorem witness_SpindleDropsOfAllKinds :
    let c := { (loadTask (.search true) (some (.disc 0))) with task := ⟨.unloadLane, 0, trayOf 0, stationOutput, 0, 0⟩ }
    let s := (armDoes c).setDisc 0 (some { disc with outcome := .passed })
    s.transport.current = some c ∧ c.cargo = some (.disc 0) ∧ c.task.dest = stationOutput ∧ (s.disc 0).isSome = true ∧
      disc.slot = BitVec.ofNat 8 (0 : SlotNo).val ∧ disc.laneUsed = BitVec.ofNat 8 (0 : LaneNo).val ∧
      ({ c with cargo := some (.pair 0) } : ArmTask).cargo = some (.pair 0) ∧
      ({ c with cargo := some (.orphan none) } : ArmTask).cargo ≠ none := by decide

theorem witness_HomingAndTimeoutTaken :
    let h : State := { part .starting with transport := { Transport.reset with arm := .homing, homing := some .lift, timer := some 0 } }
    let g : State := { h with transport := { h.transport with homing := some .swing } }
    h.transport.arm = .homing ∧ h.transport.homing = some .lift ∧ g.transport.homing = some .swing ∧ h.transport.timer = some 0 ∧
      (armDoes (loadTask (.lift false) none)).transport.arm = .moving ∧ (armDoes (loadTask (.lift false) none)).transport.timer = some 0 ∧
      (armDoes (loadTask (.lift false) none)).transport.current = some (loadTask (.lift false) none) ∧
      (loadTask (.lift false) none).task.faults = 0 ∧ (loadTask (.lift false) none).redirect = false ∧
      ({ loadTask (.lift true) (some (.disc 0)) with redirect := true } : ArmTask).redirect = true ∧
      (part .running).transport.arm ≠ .homing ∧
      (let w : State := { part .starting with
        transport := { Transport.reset with sweep := some ⟨true, true⟩ }
        lanes := Vector.replicate 16 { Lane.reset with state := .offline } }
       w.port.part = .starting ∧ w.transport.sweep = some ⟨true, true⟩ ∧
         ∀ n, (w.lane n).state = .idle ∨ (w.lane n).state = .offline ∨ (w.lane n).state = .faulted) ∧
      ((part .running).lane 0).state = .unknown ∧ ((part .running).link 0).up = false ∧
      (((part .running).setLink 0 ⟨true, 0, []⟩).link 0).up = true ∧ ((part .running).lane 0).waits.tray = none ∧
      ((laneState (lane .idle)).lane 0).state ≠ .unknown := by decide

/-- A part whose arm is IDLE, with a LOAD for lane 0 queued. -/
def selecting : State :=
  ({ part .running with transport := { Transport.reset with arm := .idle } }).setQueued 0 (some ⟨.load, 0, 0, trayOf 0, 0, 0⟩)

theorem witness_SelectionTakesOldestEligible :
    selectTask selecting = some ⟨.load, 0, 0, trayOf 0, 0, 0⟩ ∧ selecting.queued 0 = some ⟨.load, 0, 0, trayOf 0, 0, 0⟩ ∧
      TaskKind.load ∈ [.load, .unloadLane, .unloadPrinter] ∧ eligible selecting ⟨.load, 0, 0, trayOf 0, 0, 0⟩ = true ∧
      selecting.port.part ≠ .stopped ∧ selecting.transport.arm = .idle ∧ selecting.transport.current = none ∧
      selecting.transport.sweep = none ∧ selectTask (part .running) = none ∧ State.reset.port.part = .stopped ∧
      TaskKind.unloadLane ≠ .load ∧ stationOutput ≠ stationPrinter := by decide

theorem witness_MotorsDrivenByState :
    (armDoes (loadTask (.waitTray true) none)).pins.stop = false ∧
      ArmAt (loadTask (.waitTray true) none) (.waitTray true) (armDoes (loadTask (.waitTray true) none)) ∧
      ArmAt (loadTask (.swing true) none) (.swing true) (armDoes (loadTask (.swing true) none)) ∧
      ArmAt (loadTask (.lift true) none) (.lift true) (armDoes (loadTask (.lift true) none)) ∧
      ({ State.reset with pins := ⟨true, false⟩ } : State).pins.stop = true ∧ State.reset.transport.arm = .unhomed ∧
      ({ State.reset with printer := { Printer.reset with move := some .retract } } : State).printer.move ≠ none ∧
      (let h : State := { State.reset with transport := { Transport.reset with arm := .homing, homing := some .lift } }
       h.transport.arm = .homing ∧ h.transport.homing = some .lift ∧ motorDrive h 0 ≠ .off ∧ h.pins.stop = false) ∧
      motorDrive State.reset 0 = .off ∧ (State.reset.leg 0 0).high = false ∧ isReset .causeRead = false :=
  ⟨rfl, ⟨rfl, rfl, rfl⟩, ⟨rfl, rfl, rfl⟩, ⟨rfl, rfl, rfl⟩, rfl, rfl, by decide, by decide, by decide, by decide, rfl⟩

/-- R144: of a leg with its high switch on and its low one wanted, the high one turns off first, and the low one turns on once the high
one has been off for the dead time, here 20 units of 62.5 ns. -/
theorem test_leg_keeps_dead_time :
    let l : Leg := ⟨true, false, 0, 128⟩
    let l1 := l.after 20 (some false)
    let l2 := l1.after 20 (some false)
    let l3 := l2.after 20 (some false)
    l1 = ⟨false, false, 0, 128⟩ ∧ (l2.low = false ∧ l2.highOff = 16) ∧ (l3.low = true ∧ l3.high = false) := by decide

/-! ### Witnesses: the printer -/

/-- A part with a printer as given. -/
def printer (p : Printer) : State := { part .running with printer := p }

theorem witness_PrinterTrayMovesEnd :
    (printer { Printer.reset with move := some .homeSeek }).printer.move = some .homeSeek ∧
      (printer { Printer.reset with move := some .retract, state := .loaded }).printer.state = .loaded ∧
      (printer { Printer.reset with move := some .advance }).printer.move = some .advance ∧
      (printer Printer.reset).printer.move = none ∧ (printer Printer.reset).printer.state ≠ .loaded ∧
      (let p := { Printer.reset with present := true, tray := .line 0 }
       p.present = true ∧ p.halt = false ∧ p.state = .empty ∧ p.tray ≠ .home ∧ p.move = none ∧
         ({ p with tray := .home } : Printer).tray = .home ∧ ({ p with move := some .advance } : Printer).move ≠ none) ∧
      Printer.reset.present = false := by decide

theorem witness_PrintStartsLabel :
    let s := (((printer { Printer.reset with state := .loaded, disc := some (.disc ⟨0, 0⟩) }).setJob 0
      { job .running with raster := some (0x30000, 4) })).setDisc 0 (some disc)
    s.printer.disc = some (.disc ⟨0, 0⟩) ∧ (s.job 0).raster = some (0x30000, 4) ∧ s.disc 0 = some disc := by decide

/-- A printing printer in a line phase, with line 0 in its buffer or not. -/
def lines (l : LinePhase) (slot : LineSlot) (strike : Option Strike) : Printer :=
  { Printer.reset with state := .printing, line := l, strike := strike, buffer := Printer.reset.buffer.set 0 slot }

/-- The strike of 9.8. -/
def strike : Strike := ⟨681, 553, 468, 2500, false, []⟩

theorem witness_LinesStruck :
    (lines (.waitDue 0) .empty none).state = .printing ∧ (lines (.waitDue 0) .empty none).line = .waitDue 0 ∧
      lineReady (lines (.waitDue 0) (.ready 0 []) none) 0 = some [] ∧ lineReady (lines (.waitDue 0) .empty none) 0 = none ∧
      ({ lines (.waitDue 0) (.ready 0 []) none with move := some .advance } : Printer).move ≠ none ∧
      (lines (.striking 1 0 0) .empty (some strike)).line = .striking 1 0 0 ∧
      (lines (.striking 1 0 0) .empty (some strike)).strike = some strike ∧ strike.next 1 = some 2 ∧ strike.next 3 = none ∧
      Printer.reset.state ≠ .printing ∧ Printer.reset.strike = none := by decide

theorem witness_LineReadsTaken :
    liveLineRead (lines .waiting (.reading 0 1 7) none) 0 0 1 = some 7 ∧
      liveLineRead (lines .waiting (.reading 0 3 7) none) 0 0 3 = some 7 ∧
      liveLineRead (lines .waiting (.reading 0 1 7) none) 1 0 1 = none ∧
      isStriking (lines (.striking 1 0 0) (.reading 0 3 7) (some strike)) = true ∧
      isStriking (lines .waiting (.reading 0 3 7) none) = false := by decide

theorem witness_HoldsAndRibbonTaken :
    let p := { Printer.reset with state := .hotHold, profile := profile 20 2500 }
    let q := { Printer.reset with state := .supplyWait, profile := profile 20 2500 }
    p.state = .hotHold ∧ p.halt = false ∧ sensorFault (0 : BitVec 10).toNat = true ∧ sensorFault (470 : BitVec 10).toNat = false ∧
      temperature p.profile (470 : BitVec 10).toNat ≤ p.profile.tmax - 20 ∧
      ({ p.profile with tmax := 161 } : Profile).tmax - 20 < temperature p.profile (470 : BitVec 10).toNat ∧
      q.profile.vmin + 200 ≤ 8 * (2275 : BitVec 12).toNat ∧ 8 * (2274 : BitVec 12).toNat < q.profile.vmin + 200 ∧
      q.state ≠ .hotHold ∧ p.state ≠ .supplyWait ∧ isStriking (lines (.striking 1 0 0) .empty (some strike)) = true ∧
      isStriking p = false ∧ p.state ≠ .finished ∧ ({ p with halt := true } : Printer).halt = true ∧
      (lines .waiting (.ready 0 []) none).move = none ∧
      lineReady (lines .waiting (.ready 0 []) none) (lines .waiting (.ready 0 []) none).nextLine = some [] ∧
      ({ lines .waiting (.ready 0 []) none with move := some .advance } : Printer).move ≠ none ∧
      lineReady (lines .waiting (.reading 0 1 7) none) 0 = none ∧
      ({ printer p with pins := ⟨false, true⟩ } : State).pins.ribbonOut = true ∧ (printer p).pins.ribbonOut = false := by decide

theorem witness_PrinterFaultStopsPrint :
    let s := (printer { Printer.reset with state := .loaded, disc := some (.disc ⟨0, 0⟩), move := some .retract }).setDisc 0
      (some { disc with outcome := .passed })
    s.printer.state ≠ .faulted ∧ s.printer.halt = false ∧ s.printer.disc = some (.disc ⟨0, 0⟩) ∧
      s.printer.state ∈ [.loaded, .printing, .hotHold, .supplyWait] ∧ s.disc 0 = some { disc with outcome := .passed } ∧
      s.printer.move ≠ none ∧ Printer.reset.move = none ∧ Printer.reset.state = .empty ∧ stopsBetween s.printer = true ∧
      stopsBetween { Printer.reset with move := some .advance, tray := .line 7 } = false ∧
      stopsBetween { Printer.reset with move := some .homeSeek, tray := .line 7 } = true ∧
      stopsBetween { Printer.reset with move := some .homeSeek } = false ∧
      (printer { Printer.reset with state := .faulted }).printer.state = .faulted := by decide

theorem witness_StrobeBounds :
    let p := profile 20 2500
    (470 : BitVec 10) ≠ 0 ∧ (470 : BitVec 10) ≠ 1023 ∧ temperature p (470 : BitVec 10).toNat < p.tmax ∧
      142 ≤ temperature p (470 : BitVec 10).toNat ∧ p.vmin ≤ 8 * (2900 : BitVec 12).toNat ∧ 8 * (2249 : BitVec 12).toNat < p.vmin ∧
      p.pmin ≤ p.pmax ∧ p.h1 ≤ 256 ∧ p.h2 ≤ p.h1 ∧ ({ p with tmax := 142 } : Profile).tmax ≤ temperature p (470 : BitVec 10).toNat := by
  decide

/-! ### Witnesses: the operations the commands share -/

/-- A part with disc 0 of slot 0, its record as given, and the arm in a state with a task. -/
def carrying (c : ArmTask) (arm : ArmState) (l : Lane) (x : DiscRecord) : State :=
  { (laneState l).setDisc 0 (some x) with transport := { Transport.reset with arm := arm, current := some c } }

/-- A task of a kind of lane 0, or of the printer, in a phase with a cargo. -/
def armTask (kind : TaskKind) (r : RequesterNo) (source dest : StationNo) (cargo : Option Cargo) (p : ArmPhase) : ArmTask :=
  ⟨⟨kind, r, source, dest, 0, 0⟩, cargo, p, false, false, false, false⟩

theorem witness_AbortJobParts :
    let q := (laneState { lane .loadWait with inTray := false }).setQueued 0 (some ⟨.load, 0, 0, trayOf 0, 0, 0⟩)
    let a := (laneState { lane .trayLoad with inTray := false }).setDisc 0 (some { disc with location := .arm })
    q.queued (requesterOf 0) = some ⟨.load, 0, 0, trayOf 0, 0, 0⟩ ∧ (q.lane 0).disc = some ⟨0, 0⟩ ∧
      (laneState (lane .writing)).queued (requesterOf 0) = none ∧ a.disc 0 = some { disc with location := .arm } ∧
      (a.lane 0).inTray = false ∧ (a.lane 0).state ∈ [.loadWait, .trayLoad] ∧ disc.outcome = .pending ∧
      disc.slot = BitVec.ofNat 8 (0 : SlotNo).val ∧ (a.lane 0).verify.stage = .off ∧ (a.lane 0).verify.unit = none ∧
      (a.lane 0).pins = [] ∧ .grant ∉ a.signals ∧ (part .running).disc 0 = none := by decide

theorem witness_AbortJobTests :
    let counts := fun (st : JobState) (good inFlight : Nat) => { job st with good := good, inFlight := inFlight }
    (job .running).record = some record ∧ record.copies = 1 ∧ 1 ≤ (counts .running 0 1).inFlight ∧
      (counts .draining 0 0).good < 1 ∧ ¬ 1 ≤ (counts .draining 0 0).good + (counts .draining 0 0).inFlight ∧
      1 ≤ (counts .held 1 0).good ∧ (counts .held 1 0).state = .held ∧ (counts .aborting 0 0).inFlight = 0 ∧
      (counts .aborting 0 1).inFlight ≠ 0 ∧ (counts .done 1 0).state ∈ [.free, .done, .aborted] := by decide

theorem witness_StopInputParts :
    let c := armTask .load 0 0 5 (some (.disc 0)) (.swing true)
    let s := carrying { c with redirect := true } .moving (lane .trayLoad) { disc with outcome := .rejected }
    let p := { (laneState (lane .idle)).setDisc 0 (some { disc with outcome := .passed }) with
      printer := { Printer.reset with state := .loaded, disc := some (.disc ⟨0, 0⟩), move := some .retract } }
    s.transport.current = some { c with redirect := true } ∧ c.task.kind = .load ∧ laneOfTray c.task.dest = some 0 ∧
      c.cargo = some (.disc 0) ∧ s.transport.arm ≠ .unhomed ∧ State.reset.transport.arm = .unhomed ∧
      (armTask .unloadLane 0 5 3 none (.lift false)).redirect = false ∧ p.printer.halt = false ∧ p.printer.state = .loaded ∧
      p.printer.disc = some (.disc ⟨0, 0⟩) ∧ p.disc 0 = some { disc with outcome := .passed } ∧
      ({ p.printer with state := .hotHold } : Printer).state = .hotHold ∧
      Printer.reset.state ∈ [.empty, .finished, .faulted] ∧ ({ p.printer with halt := true } : Printer).halt = true := by decide

/-- R66: a disc decided REJECTED while the arm is STOPPED leaves its lane in TRAY_LOAD with no tray command, and the withdrawal is told by
the arm's restart. -/
theorem test_withdrawal_waits_for_the_arm :
    let c := { armTask .load 0 0 5 (some (.disc 0)) (.waitTray true) with redirect := true }
    let s := carrying c .stopped { lane .trayLoad with inTray := false } { disc with outcome := .rejected, location := .arm }
    (takeSignal .armRejected s).lanes = s.lanes ∧ (stopArm s).lanes = s.lanes ∧
      ((resumeTask ⟨true, false, false⟩ s).lane 0).waits.tray = some ⟨.close, .withdrawClose false, 0⟩ := by decide

/-- R64, R86 and R104: a lane whose disc has been gripped is FAULTED by a link loss holding none, as is one whose withdrawn load's CLOSE
fails. -/
theorem test_faulted_lane_holds_no_disc :
    let g := (laneState { lane .trayUnload with inTray := false }).setLink 0 ⟨false, 0, []⟩
    let w := laneState { lane .trayLoad with inTray := false }
    let t : TrayWait := ⟨.close, .withdrawClose false, 0⟩
    (((laneDown 0 g).lane 0).state = .faulted ∧ ((laneDown 0 g).lane 0).disc = none) ∧
      ((trayFailed 0 t .trayJammed w).lane 0).state = .faulted ∧ ((trayFailed 0 t .trayJammed w).lane 0).disc = none := by decide

/-- R157 and R159: a RIBBON_OUT in a line advance leaves the tray at the line it reached. -/
theorem test_ribbon_out_leaves_the_line :
    let p := { Printer.reset with state := .printing, tray := .line 7, move := some .advance, nextLine := 8, line := .waitDue 9 }
    (takeRibbonOut (printer p)).printer.tray = .line 7 ∧ (takeRibbonOut (printer p)).printer.state = .faulted ∧
      (takeRibbonOut (printer { p with move := some .retract, tray := .home, state := .loaded })).printer.tray =
        .line (Config.stoppedLine 0).val := ⟨by decide, by decide, rfl⟩

theorem witness_LinkDownByState :
    let q := (laneState { lane .loadWait with inTray := false }).setQueued 0 (some ⟨.load, 0, 0, trayOf 0, 0, 0⟩)
    let w := fun (p : TrayPurpose) => (trayWaits .query p).lane 0
    (q.lane 0).state = .loadWait ∧ (q.lane 0).disc = some ⟨0, 0⟩ ∧ q.queued (requesterOf 0) = some ⟨.load, 0, 0, trayOf 0, 0, 0⟩ ∧
      (laneState (lane .loadWait)).queued (requesterOf 0) = none ∧ discPending (laneState (lane .loadWait)) 0 = true ∧
      discPending ((laneState (lane .loadWait)).setDisc 0 none) 0 = false ∧
      ((laneState (lane .negotiating)).lane 0).state ∈ [.trayLoad, .probing, .negotiating, .writing, .closing, .verifying] ∧
      (w .inventory).waits.tray.map (·.purpose) = some .inventory ∧ (w (.stale true)).waits.tray.map (·.purpose) = some (.stale true) ∧
      loadWithdrawn (w (.withdrawClose false)) = true ∧ loadWithdrawn (w .loadOpen) = false ∧
      disc.slot = BitVec.ofNat 8 (0 : SlotNo).val ∧ (lane .trayUnload).state = .trayUnload := by decide

theorem witness_SectorsStandStill :
    let w := laneState { lane .writing with waits := { Waits.none with openAck := some 0 }, fifo := [⟨0, []⟩], credits := 1 }
    let e := copying.setLane 0 { copying.lane 0 with nextSend := 1, pace := ⟨0, 0, 0, 1023⟩ }
    (w.lane 0).waits.openAck ≠ none ∧ writeFrame w 0 0 = none ∧ (e.lane 0).pace.toward + 1 = 1024 ∧
      laneRecord e 0 = some { record with imageSectors := 2 } ∧ 2 ≤ (e.lane 0).nextSend + 1 ∧ (e.lane 0).state = .writing ∧
      writeFrame copying 0 0 = some 0 ∧
      (∀ p, p ∈ (w.lane 0).pins → p.kind = .write → p.page = 0 → ∀ f, p.frame = some f → (w.frame f).state ≠ .resident) := by decide

theorem witness_ProbeRunsAndHolds :
    ((part .running).setJob 0 { job .running with probeRun := 2 }).job 0 = { job .running with probeRun := 2 } ∧
      (job .running).probeRun ≠ 2 ∧ (job .draining).state = .draining ∧ (job .held).state ≠ .running ∧
      RejectReason.tooSmall ≠ .wrongMedia ∧ RejectReason.tooSmall ≠ .notBlank := by decide

theorem witness_TrayFailures :
    let u := (laneState (lane .trayUnload)).setQueued 0 (some ⟨.unloadLane, 0, 5, 3, 0, 0⟩)
    let held := carrying (armTask .unloadLane 0 5 3 none (.waitTray false)) .moving (lane .trayUnload) disc
    u.queued (requesterOf 0) = some ⟨.unloadLane, 0, 5, 3, 0, 0⟩ ∧ giveUpUnload 0 u = u ∧
      held.transport.arm = .moving ∧ (armTask .unloadLane 0 5 3 none (.waitTray false)).lane = some 0 ∧
      ((lane .faulted).disc ≠ none ∧ (lane .faulted).inTray = true) ∧ ¬ (Lane.reset.disc ≠ none ∧ Lane.reset.inTray = true) ∧
      ((laneState (lane .loadWait)).lane 0).disc = some ⟨0, 0⟩ ∧
      ((trayWaits .opened .loadOpen).lane 0).waits.tray = some ⟨.opened, .loadOpen, 0⟩ ∧
      ((laneState (lane .trayLoad)).lane 0).waits.tray = none ∧ ((laneState (lane .trayLoad)).link 0).up = true ∧
      ({ lane .loadWait with refuse := some .driveFault } : Lane).refuse = some .driveFault ∧
      (lane .loadWait).refuse ≠ some .driveFault := ⟨by decide, rfl, by decide, by decide, by decide, by decide, by decide, by decide,
        by decide, by decide, by decide, by decide⟩

theorem witness_RejectionDecides :
    let x := { disc with location := .lane 0 }
    ((laneState (lane .writing)).setDisc 0 (some x)).disc 0 = some x ∧ x.outcome = .pending ∧
      x.slot = BitVec.ofNat 8 (0 : SlotNo).val ∧ x.laneUsed = BitVec.ofNat 8 (0 : LaneNo).val ∧ x.location = .lane 0 ∧
      ((laneState (lane .writing)).lane 0).uncounted ≠ some 0 ∧ ¬ (disc.outcome = .passed ∨ disc.location = .lane 0) ∧
      (part .running).disc 255 = none ∧ ({ disc with outcome := .good } : DiscRecord).outcome ≠ .passed := by decide

theorem witness_VerifyDecisions :
    let l := { lane .verifying with verify := { VerifyState.reset with blockStart := 32 } }
    ((laneState l).link 0).up = true ∧ (l.verify.blockStart + 32 < 65) ∧ 64 ≤ l.verify.blockStart + 32 ∧ l.inTray = true ∧
      l.disc = some ⟨0, 0⟩ ∧ (laneState l).disc 0 = some disc ∧ disc.outcome = .pending ∧ l.verify.stage = .off ∧
      l.verify.unit = none ∧ RejectReason.verifyHard ≠ .writeFault ∧ record.verifyMode ≠ .compare ∧
      ({ record with verifyMode := .compare } : JobRecord).verifyMode = .compare := by decide

theorem witness_StagesGivenBack :
    let l := fun (stage : CompareStage) (unit : Option UnitNo) => { lane .faulted with verify := { VerifyState.reset with stage := stage, unit := unit } }
    let s := fun (st : UnitState) => (laneState (l .granted (some 3))).setUnit 3 ⟨st, some 0, .disc, 0, 1, 0, none, 0, true, 0, none⟩
    (l .off none).verify.stage = .off ∧ (l .queued none).verify.stage = .queued ∧ (l .granted none).verify.unit = none ∧
      ((s .comparing).unit 3).state = .comparing ∧ ((s .referenceWait).unit 3).state ≠ .comparing ∧
      (((s .comparing).lane 0).verify.unit = some 3 ∧ ((s .comparing).unit 3).discard = true ∧
        ((s .comparing).unit 3).owner = some 0) ∧ (l .off none).enabled = false ∧ ((s .comparing).link 0).up = true ∧
      ((part .running).link 0).up = false ∧ ({ lane .idle with enabled := true } : Lane).enabled = true := by decide

theorem witness_PagesFail :
    let p : LanePin := ⟨.compare, 0, 0, some 0⟩
    let s := (laneState { lane .verifying with pins := [p], verify := { VerifyState.reset with stage := .granted, unit := some 0 } }).setUnit 0
      ⟨.referenceWait, some 0, .disc, 0, 1, 0, none, 0, false, 0, none⟩
    pinsOn s 0 = [(0, p)] ∧ (s.lane 0).verify.unit = some 0 ∧ (s.unit 0).state = .referenceWait ∧
      ((laneState (lane .verifying)).lane 0).verify.unit = none ∧ (s.unit 1).state ≠ .referenceWait := by decide

theorem witness_TrayExchanges :
    let u := armTask .unloadLane 0 5 3 none (.descend false)
    let f := armTask .load 0 0 5 (some (.disc 0)) (.descend true)
    let p := armTask .unloadPrinter 16 4 3 none (.descend false)
    (u.lane = some 0 ∧ u.task.source = trayOf 0) ∧ (laneOfTray f.task.dest = some 0 ∧ f.task.dest = trayOf 0) ∧
      (p.task.source = stationPrinter ∧ laneOfTray stationPrinter = none) ∧ u.target false = 5 ∧ isTray 5 = true ∧ isTray 3 = false ∧
      ((carrying u .moving (lane .trayUnload) disc).lane 0).disc = some ⟨0, 0⟩ ∧ (part .running).printer.disc ≠ some (.disc ⟨0, 0⟩) ∧
      (carrying u .moving (lane .trayUnload) disc).disc 0 = some disc ∧ disc.slot = BitVec.ofNat 8 (0 : SlotNo).val ∧
      (u.task.kind = .unloadLane ∧ u.lane = some 0 ∧ u.cargo = none ∧ u.finished = false) ∧
      ((lane .loadWait).state ∈ [.loadWait, .trayLoad]) ∧ ((lane .unloadWait).state ∈ [.unloadWait, .trayUnload]) ∧
      f.redirect = false ∧ ({ f with redirect := true } : ArmTask).redirect = true := by decide

theorem witness_Picks :
    let c := armTask .load 0 0 5 none (.search false)
    let x := { disc with outcome := .reserved }
    let s := carrying c .moving { lane .loadWait with inTray := false } x
    let j := { job .running with nextSerial := some 9, record := some { record with substs := [⟨0, 0, 1, .serial 1⟩] } }
    s.transport.current = some c ∧ c.lane = some 0 ∧ (s.lane 0).disc = some ⟨0, 0⟩ ∧ s.disc 0 = some x ∧
      isTray c.task.dest = true ∧ isTray c.task.source = false ∧ (s.job 0).state = .running ∧
      (s.disc 1 = none ∧ ∀ q : DiscNo, q < 1 → s.disc q ≠ none) ∧ (job .held).state ≠ .running ∧
      ({ lane .loadWait with refuse := some .laneDisabled } : Lane).refuse = some .laneDisabled ∧ (s.lane 0).refuse = none ∧
      serialWidth [⟨0, 0, 1, .serial 1⟩] = some 1 ∧ serialLimit 1 = 9 ∧ ¬ serialLimit 1 < 9 ∧ serialLimit 1 < 10 ∧
      j.nextSerial = some 9 ∧ ¬ (9 + 1 + (j.reserved - 1) ≤ serialLimit 1) := by
  refine ⟨by decide, by decide, by decide, by decide, by decide, by decide, by decide, ⟨by decide, ?_⟩, by decide, by decide, by decide,
    by decide, by decide, by decide, by decide, by decide, by decide⟩
  intro q h
  have hq : q = 0 := Fin.ext (by have := Fin.lt_def.mp h; simpa using this)
  subst hq
  decide

theorem witness_CountsBalance :
    let x := { job .running with issued := 1, inFlight := 1, reserved := 1 }
    x.issued < max32 ∧ x.rejected < max32 ∧ Balanced x ∧ 0 < x.inFlight ∧ 0 < x.reserved :=
  ⟨by decide, by decide, rfl, by decide, by decide⟩

theorem witness_SecondFaults :
    let d := armTask .unloadLane 0 5 3 none (.descend false)
    let s := carrying d .moving (lane .trayUnload) { disc with outcome := .passed }
    s.transport.current = some d ∧ d.finished = false ∧ d.cargo = none ∧ d.unreported = false ∧ d.lane = some 0 ∧
      (s.lane 0).disc = some ⟨0, 0⟩ ∧ s.disc 0 = some { disc with outcome := .passed } ∧ d.task.faults = 0 ∧
      ({ d with unreported := true } : ArmTask).unreported = true ∧ ({ d with finished := true } : ArmTask).finished = true ∧
      (armTask .load 0 0 5 (some (.disc 0)) (.swing true)).cargo = some (.disc 0) ∧
      (armTask .unloadPrinter 16 4 2 none (.swing false)).task.kind ∉ [.load, .unloadLane] ∧
      (part .running).transport.current = none := by decide

theorem witness_MovesBegin :
    let c := armTask .load 0 0 5 (some (.disc 0)) (.rise false)
    let s := carrying c .moving (lane .loadWait) { disc with outcome := .rejected }
    let r := { c with task := { c.task with dest := 3 } }
    let f := (carrying r .moving (lane .loadWait) disc).setEntry 3 { StationEntry.reset with full := true }
    s.transport.current = some c ∧ s.transport.liftPos = 0 ∧ s.transport.swingPos = (s.station (c.target true)).swing ∧
      (f.entry r.task.dest).full = true ∧ f.port.part ≠ .starting ∧ f.transport.current = some r ∧
      (c.task.kind = .load ∧ c.phase = .rise false ∧ c.finished = false) ∧
      (c.task.kind = .load ∧ isTray c.task.dest = true ∧ c.cargo = some (.disc 0) ∧
        s.disc 0 = some { disc with outcome := .rejected }) ∧ c.phase ≠ .waitTray true ∧ c.tellClose = false ∧
      ({ c with tellClose := true } : ArmTask).tellClose = true ∧ (lane .trayUnload).state = .trayUnload := by decide

theorem witness_PrinterEntersFinished :
    let p := { Printer.reset with state := .finished, disc := some (.disc ⟨0, 0⟩), complete := true, halt := true }
    let s := (printer p).setDisc 0 (some { disc with outcome := .passed })
    s.printer.disc = some (.disc ⟨0, 0⟩) ∧ s.disc 0 = some { disc with outcome := .passed } ∧ s.queued requesterPrinter = none ∧
      s.transport.current = none ∧ (s.setQueued 16 (some ⟨.unloadPrinter, 16, 4, 2, 0, 0⟩)).queued requesterPrinter ≠ none ∧
      s.printer.state = .finished ∧ s.printer.halt = true ∧ ({ p with halt := false } : Printer).halt = false ∧
      Printer.reset.state ≠ .finished ∧ p.state ∈ [.loaded, .printing, .hotHold, .supplyWait, .finished] ∧
      Printer.reset.state ∈ [.empty, .faulted] := by decide

theorem witness_LabelsEnd :
    let p := { Printer.reset with state := .printing, disc := some (.disc ⟨0, 0⟩), bound := some (0x20000, 2), nextLine := 2 }
    let s := (printer p).setDisc 0 (some { disc with outcome := .passed })
    s.printer.bound = some (0x20000, 2) ∧ 2 ≤ p.nextLine ∧ ({ p with nextLine := 1 } : Printer).nextLine < 2 ∧
      ({ p with ribbonPending := true } : Printer).ribbonPending = true ∧ p.readFailed = false ∧
      ({ p with readFailed := true } : Printer).readFailed = true ∧ s.disc 0 = some { disc with outcome := .passed } ∧
      disc.slot = BitVec.ofNat 8 (0 : SlotNo).val ∧ (∀ due, p.line ≠ .waitDue due) ∧
      (∀ phase start first, p.line ≠ .striking phase start first) :=
  ⟨rfl, by decide, by decide, rfl, rfl, rfl, rfl, rfl, (by intro d h; cases h), (by intro a b c h; cases h)⟩

theorem witness_UsesOfARaster :
    let o : RasterUse := ⟨0x30000, 1, true⟩
    (∃ u, u ∈ [o] ∧ u.address = 0x30000) ∧ (∀ u, u ∈ [o] → u.address ≠ 0x40000) ∧
      bindUse 0x40000 [o] = [o, ⟨0x40000, 1, false⟩] ∧ exchangeUses 0x40000 0x30000 [o] = [{ o with retiring := false }] := by decide

theorem witness_LinesComposed :
    let o : Overlay := ⟨2, 1, 0, 0⟩
    let j : Job := { job .running with record := some { record with overlay := some o } }
    let p : Printer := { Printer.reset with newer := List.replicate 1344 false, older := List.replicate 1344 false }
    let k : Strike := { strike with dots := List.replicate 1344 true }
    j.record = some { record with overlay := some o } ∧ record.overlay = none ∧ (0 : Nat) < 1344 ∧ 1 ∈ [1, 2, 3] ∧
      k.dots.length = 1344 ∧ p.newer.length = 1344 ∧ p.older.length = 1344 ∧ true ∈ k.dots ∧
      true ∉ ({ k with dots := List.replicate 1344 false } : Strike).dots :=
  ⟨rfl, rfl, by decide, by decide, List.length_replicate, List.length_replicate, List.length_replicate,
    List.mem_replicate.mpr ⟨by decide, rfl⟩, fun h => by cases List.eq_of_mem_replicate h⟩

theorem witness_LinesComputed :
    let p : Printer := { Printer.reset with state := .printing, disc := some (.disc ⟨0, 0⟩), profile := profile 20 2500, sample := ⟨470, 2900⟩ }
    let s := (printer p).setDisc 0 (some disc)
    s.printer.disc = some (.disc ⟨0, 0⟩) ∧ s.disc 0 = some disc ∧
      strobe s.printer.profile s.printer.sample = .pulse 681 553 468 2500 false ∧ strobe p.profile ⟨0, 2900⟩ = .sensor ∧
      strobe { p.profile with tmax := 142 } p.sample = .hot 142 ∧ strobe p.profile ⟨470, 2249⟩ = .lowSupply 17992 := by decide

theorem witness_TraysOffered :
    let c := loadTask (.waitTray true) (some (.disc 0))
    let d := armTask .unloadLane 0 (trayOf 0) stationOutput none (.waitTray false)
    ArmAt c (.waitTray true) (armDoes c) ∧ c.target true = trayOf 0 ∧ ArmAt d (.waitTray false) (armDoes d) ∧ d.target false = trayOf 0 ∧
      (∀ e dest, ArmAt e (.waitTray dest) (part .running) → e.target dest ≠ trayOf 0) :=
  ⟨⟨rfl, rfl, rfl⟩, rfl, ⟨rfl, rfl, rfl⟩, rfl, fun _ _ h => by cases h.1⟩

theorem witness_RequestsRanked :
    let s := laneState { lane .writing with rate := some 4000, pins := [⟨.write, 0, 1, none⟩] }
    let p : LanePin := ⟨.write, 0, 1, none⟩
    (s.lane 0).rate = some 4000 ∧ 0 ∈ [(0 : LaneNo)] ∧ p ∈ (s.lane 0).pins ∧ p.kind = .write ∧ p.slot = 0 ∧ p.page = 1 ∧
      (∀ m, m ∈ [(0 : LaneNo)] → leadTime s 0 = leadTime s m ∧ (0 : LaneNo) ≤ m) ∧
      (∀ n, n ∈ [(0 : LaneNo)] → ∀ q, q ∈ ((laneState (lane .idle)).lane n).pins → q.kind ≠ .write) := by decide

theorem test_positions_not_valid_show_as_zero :
    ((transportBlock { Transport.reset with shownLift := 5, shownSwing := 7 }).drop 2).take 4 = [0, 0, 0, 0] := by decide

theorem test_unload_given_up_ends_the_disc :
    let s := (laneState { lane .trayUnload with credits := 9, fifo := [⟨0, []⟩] }).setDisc 0 (some { disc with outcome := .passed })
    let l := (unloadGivenUp 0 s).lane 0
    l.state = .faulted ∧ l.credits = 0 ∧ l.fifo = [] ∧ l.disc = some ⟨0, 0⟩ := by decide

theorem witness_PinsStand :
    let p : LanePin := ⟨.diagnostic, 0, 0, some 0⟩
    let s := (laneState { lane .idle with pins := [p], diag := some ⟨0, 0, 0, none, 0, 0, 0, 0, 0, none⟩ }).setFrame 0
      { Frame.reset with state := .resident, pinCount := 1 }
    (s.frame 0).state = .resident ∧ frameMatches 0 0 (s.frame 0) = true ∧ p ∈ (s.lane 0).pins ∧ (s.lane 0).pins.Nodup ∧
      (s.lane 0).diag ≠ none ∧ PinsStand s := by
  refine ⟨by decide, by decide, by decide, by decide, by decide, fun f => ?_⟩
  by_cases h : f = 0
  · subst h
    decide
  · have hl : ∀ n, ((laneState { lane .idle with pins := [⟨.diagnostic, 0, 0, some 0⟩], diag := some ⟨0, 0, 0, none, 0, 0, 0, 0, 0, none⟩ }).lane n).pins.countP
        (fun p => decide (p.frame = some f)) = 0 := by
      intro n
      by_cases hn : n = 0
      · subst hn
        simpa [laneState, State.lane, State.setLane] using fun e : 0 = f => h e.symm
      · rw [laneState, State.lane_setLane_ne _ _ _ _ hn]
        simp [part, State.lane, State.setJob, State.setDisc, State.setLink, State.reset, Lane.reset]
    rw [State.frame_setFrame_ne _ _ _ _ h, List.sum_eq_zero_iff_forall_eq_nat.mpr]
    · simp [laneState, part, State.frame, State.setJob, State.setDisc, State.setLink, State.setLane, State.reset, Frame.reset]
    · intro x hx
      obtain ⟨n, -, rfl⟩ := List.mem_map.mp hx
      exact hl n

/-! ### Witnesses: reports, the log and every step -/

theorem witness_ReportsWriteWindow :
    MemoriesWf (part .starting) ∧ (part .starting).port.part ≠ .stopped ∧ (part .stopped).port.part = .stopped ∧ 256 ≤ jobRegion :=
  ⟨⟨rfl, rfl⟩, by decide, by decide, by decide⟩

theorem witness_LogEntriesMade :
    MemoriesWf (part .faulted) ∧ (part .faulted).port.part ≠ .stopped ∧ (part .stopped).port.part = .stopped :=
  ⟨⟨rfl, rfl⟩, by decide, by decide⟩

theorem witness_WindowStandsOutsideStopped :
    let s : State := { part .running with pending := [.windowBaseWrite 64] }
    s.port.part ≠ .stopped ∧ (∀ c rest, s.pending = c :: rest → isReset c = false) ∧
      step s = .next { part .running with port := { (part .running).port with cause := 32 } } :=
  ⟨by decide, by intro c rest h; cases h; rfl, rfl⟩

theorem witness_CausesStaySet :
    let s : State := { part .running with pending := [.windowBaseWrite 64] }
    (∀ c rest, s.pending = c :: rest → isReset c = false ∧ c ≠ .causeRead) ∧
      step s = .next { part .running with port := { (part .running).port with cause := 32 } } :=
  ⟨by intro c rest h; cases h; exact ⟨rfl, by decide⟩, rfl⟩

theorem witness_StepKeepsInvariant : MemoriesWf (part .running) ∧ CountsFit (part .running) ∧ Settled (part .running) :=
  ⟨⟨rfl, rfl⟩, ⟨by decide, by decide, by decide, by unfold LaneFits CountersFit; decide, by unfold JobFits; decide⟩, rfl⟩

theorem witness_TimeNeverFalls :
    CountsFit (part .running) ∧ (∀ c rest, (part .running).pending = c :: rest → isReset c = false) ∧
      step (part .running) = .next (idleStep (part .running)) ∧ (idleStep (part .running)).port.timeBase = 1 :=
  ⟨⟨by decide, by decide, by decide, by unfold LaneFits CountersFit; decide, by unfold JobFits; decide⟩, (by intro c rest h; cases h), rfl, rfl⟩

/-! ### Witnesses of the clauses on pins, diagnoses, composition, the sweep and the records -/

theorem witness_PinWithoutFrame :
    let s := part .running
    let t : State := { s with fetch := { s.fetch with queue := [⟨7, 5, [3], 0⟩] } }
    lookup s 7 5 = none ∧ (∀ q, q ∈ s.fetch.queue → q.slot = 7 → q.page ≠ 5) ∧ lookup t 7 5 = none ∧
      ∃ q, q ∈ t.fetch.queue ∧ q.slot = 7 ∧ q.page = 5 :=
  ⟨by decide +kernel, by decide, by decide +kernel, ⟨7, 5, [3], 0⟩, by decide, rfl, rfl⟩

/-- Lane 0 with a diagnosis of a page of slot 0, one block of it compared. -/
def diagnosing (page lastPage block : Nat) : State :=
  (laneState { lane .idle with diag := some ⟨0, page, lastPage, none, block, 32, 0, 0, 0, none⟩ }).setJob 0
    { job .running with record := some { record with imageSectors := 130 } }

theorem witness_DiagnosisPages :
    ((diagnosing 0 1 0).lane 0).diag = some ⟨0, 0, 1, none, 0, 32, 0, 0, 0, none⟩ ∧ pinFinds (diagnosing 0 1 0) 0 0 = .waits ∧
      pinFinds ((diagnosing 0 1 0).setFrame 0 { Frame.reset with state := .resident }) 0 0 = .ready ∧
      pinFinds ((diagnosing 0 1 0).setFrame 0 { Frame.reset with state := .failed }) 0 0 = .failed ∧
      0 + 32 < min (64 * 0 + 64) (imageSectors (diagnosing 0 1 0) 0) ∧
      min (64 * 0 + 64) (imageSectors (diagnosing 0 1 32) 0) ≤ 32 + 32 ∧ 64 * 0 < imageSectors (diagnosing 0 1 32) 0 ∧ 0 < 1 ∧
      min (64 * 2 + 64) (imageSectors (diagnosing 2 2 128) 0) ≤ 128 + 32 ∧ 64 * 2 < imageSectors (diagnosing 2 2 128) 0 ∧ 2 ≤ 2 := by
  decide +kernel

theorem witness_ClearPrinterEmpty :
    let t : State := { (part .running).setEntry 4 { StationEntry.reset with occupancy := .empty } with
      printer := { Printer.reset with state := .faulted, present := true, move := some .homeSeek } }
    t.printer.state = .faulted ∧ t.printer.disc = none ∧ (t.entry 4).occupancy = .empty := by decide

/-- R70, R16: a SERIAL entry of width 3 at offset 1 writes the serial 42 as its digits 0, 4, 2. -/
theorem test_serial_digits_composed :
    composeSector [⟨9, 1, 3, .serial 3⟩] (some 42) 9 [1, 1, 1, 1, 1] = [1, 0x30, 0x34, 0x32, 1] := by decide

theorem witness_Composition :
    let e : Subst := ⟨9, 1, 2, .fixed [7, 8]⟩
    let f : Subst := ⟨9, 3, 2, .serial 2⟩
    e.offset + e.length ≤ [0, 0, 0, 0, (0 : Byte)].length ∧ (∀ xs, e.kind = .fixed xs → e.length ≤ xs.length) ∧
      (∀ w, e.kind = .serial w → e.length = w ∧ (some 42 : Option Nat) ≠ none) ∧ f.offset + f.length ≤ [0, 0, 0, 0, (0 : Byte)].length ∧
      (∀ xs, f.kind = .fixed xs → f.length ≤ xs.length) ∧ f.kind = .serial f.length ∧
      serialWidth [e, f] = some 2 ∧ serialWidth [e] = none := by
  refine ⟨by decide, ?_, ?_, by decide, ?_, rfl, rfl, rfl⟩
  · intro xs h
    cases h
    decide
  · intro w h
    cases h
  · intro xs h
    cases h

theorem witness_BlockCompared :
    let s := comparing .disc false [5]
    let u : CompareUnit := ⟨.comparing, some 0, .disc, 0, 1, 0, none, 0, false, 0, none⟩
    (∃ p, p ∈ (s.lane 0).pins ∧ p.kind = .compare) ∧ (∀ p, p ∈ (s.lane 0).pins → p.kind = .compare → p.frame = some 0) ∧
      (∀ k, k < u.blockCount → (⟨u.blockStart + k, [5]⟩ : FifoSector) ∈ (s.lane 0).fifo) ∧
      ∀ x y, x ∈ (s.lane 0).fifo → y ∈ (s.lane 0).fifo → x.sector = y.sector → x = y := by
  refine ⟨⟨⟨.compare, 0, 0, some 0⟩, by decide, rfl⟩, by decide, ?_, ?_⟩
  · intro k h
    obtain rfl : k = 0 := Nat.lt_one_iff.mp h
    decide
  · intro x y hx hy _
    simp [comparing, laneState, State.lane, State.setLane, State.setUnit] at hx hy
    rw [hx, hy]

/-- The arm at the printer tray in the sweep. -/
def sweeping : ArmTask := ⟨sweepPrinterTask, none, .descend false, false, false, false, false⟩

theorem witness_Sweep :
    let s : State := { part .starting with transport := { Transport.reset with arm := .idle, sweep := some ⟨false, false⟩ } }
    let g : State := { s with transport := { s.transport with discPresent := true } }
    let d : State := { s with transport := { s.transport with sweep := some ⟨true, true⟩ } }
    let w : TrayWait := ⟨.close, .unloadClose, 0⟩
    let l : State := ((part .starting).setLink 0 ⟨true, 0, []⟩).setLane 0 { Lane.reset with waits := { Waits.none with tray := some w } }
    s.port.part ≠ .stopped ∧ s.transport.arm = .idle ∧ s.transport.current = none ∧ s.transport.discPresent = false ∧
      g.transport.discPresent = true ∧ g.transport.sweep = some ⟨false, false⟩ ∧
      (∀ w, d.transport.sweep = some w → w.printerDone = true ∧ (w.gripperDone = true ∨ d.transport.discPresent = false)) ∧
      (armDoes sweeping).transport.current = some sweeping ∧ sweeping.task.kind = .sweepPrinter ∧
      (armDoes { sweeping with finished := true }).transport.current = some { sweeping with finished := true } ∧
      (l.lane 0).state = .unknown ∧ (l.link 0).up = true ∧ (l.lane 0).waits.tray = some w := by
  refine ⟨by decide, by decide, by decide, by decide, by decide, by decide, ?_, by decide, rfl, by decide, by decide, by decide, by decide⟩
  intro w h
  cases h
  exact ⟨rfl, .inl rfl⟩

theorem witness_LaneTrail : Lane.reset.trail.length ≤ 8 ∧
    ({ Lane.reset with trail := List.replicate 8 (.idle, 0) } : Lane).trail.length ≤ 8 := by decide

/-! ### Witnesses of the clauses on the window, its checks, frames at a release, and the entries of the log -/

/-- The window at the bounds of its validity (R175). -/
theorem test_window_bounds :
    let p := fun (base size : Nat) => ({ Port.reset with windowBase := BitVec.ofNat 64 base, windowSize := BitVec.ofNat 64 size } : Port)
    windowValid (p 0 0x100000) = true ∧ windowValid (p 0 0xF0000) = false ∧ windowValid (p 0 0x10000000000) = true ∧
      windowValid (p 0 0x10000010000) = false ∧ windowValid (p (2 ^ 64 - 0x100000) 0x100000) = true ∧
      windowValid (p (2 ^ 64 - 0x100000) 0x110000) = false ∧ windowValid (p 1 0x100000) = false ∧
      windowValid (p 0 0x100001) = false := by decide

/-- Extents at the bounds of the window check, one without bytes too (2.6, R3). -/
theorem test_window_check_bounds :
    let p := (part .running).port
    windowCheck p 0x18000 0xE8000 = true ∧ windowCheck p 0x18000 0xE8001 = false ∧ windowCheck p 0x17FFF 1 = false ∧
      windowCheck p 0xFFFFF 0 = true ∧ windowCheck p 0x100000 0 = false ∧ windowCheck p 0xFFFFF 1 = true ∧
      windowCheck p 0x100000 1 = false := by decide

/-- A job with a SERIAL entry of width 2 and a next serial. -/
def serialJob (n : Option Nat) : Job :=
  { job .held with record := some { record with substs := [⟨0, 0, 2, .serial 2⟩] }, nextSerial := n }

theorem witness_Serials :
    serialSpent (serialJob (some 100)) = true ∧ serialSpent (serialJob (some 99)) = false ∧ serialSpent (job .held) = false ∧
      serialWidth [⟨0, 0, 2, .serial 2⟩] = some 2 ∧ serialWidth record.substs = none ∧ serialWidth [⟨0, 0, 2, .fixed [1, 2]⟩] = none ∧
      diagSerial (serialJob (some 100)) = some 99 ∧ diagSerial (serialJob (some 7)) = some 7 ∧ diagSerial (job .held) = none := by
  decide

/-- A frame of page 0 of slot 0 in a state, with pins. -/
def slotFrame (st : FrameState) (pins : Nat) : Frame := { Frame.reset with state := st, pinCount := pins }

theorem witness_FramesReleased :
    (slotFrame .failed 0).slot = 0 ∧ (slotFrame .failed 0).released = false ∧ (slotFrame .failed 0).atResume 0 = Frame.reset ∧
      (slotFrame .resident 1).atResume 0 = slotFrame .resident 1 ∧ (slotFrame .failed 0).atResume 1 = slotFrame .failed 0 ∧
      (slotFrame .failed 0).atRelease 0 = Frame.reset ∧ (slotFrame .resident 0).atRelease 0 = Frame.reset ∧
      (slotFrame .resident 1).atRelease 0 = { slotFrame .resident 1 with released := true } ∧
      (slotFrame .filling 0).atRelease 0 = { slotFrame .filling 0 with released := true } ∧
      (slotFrame .resident 1).atRelease 7 = slotFrame .resident 1 ∧ Frame.reset.atRelease 0 = Frame.reset := by decide

theorem witness_Messages :
    ((part .running).link 0).up = false ∧ (part .starting).port.part = .starting ∧ (part .running).port.part ≠ .starting ∧
      (printer { Printer.reset with present := true }).printer.present = true := by decide

theorem witness_WriteFaultRun :
    let third := laneState { lane .writing with faultRun := 2 }
    let carried := laneState { lane .trayLoad with inTray := false }
    min 3 ((third.lane 0).faultRun + 1) = 3 ∧ min 3 (((laneState (lane .writing)).lane 0).faultRun + 1) = 1 ∧
      (carried.lane 0).disc = some ⟨0, 0⟩ ∧ (carried.lane 0).inTray = false ∧ (third.lane 0).inTray = true ∧
      (third.lane 0).state ≠ .trayLoad ∧ ((laneState (lane .trayLoad)).lane 0).inTray = true := by decide

theorem witness_DropsAndEmpty :
    let spindle := fun (e : StationEntry) =>
      ({ (part .running).setEntry stationOutput e with transport := { ((part .running).setEntry stationOutput e).transport with
        stations := Vector.replicate 21 ⟨0, 0, 2⟩ } } : State)
    let almost := spindle { StationEntry.reset with count := 1 }
    let filled := spindle { StationEntry.reset with count := 2, full := true }
    (almost.entry stationOutput).full = false ∧ (almost.station stationOutput).capacity ≤ (almost.entry stationOutput).count + 1 ∧
      (filled.entry stationOutput).full = true ∧
      (almost.entry stationReject).count + 1 < (almost.station stationReject).capacity ∧
      disc.slot = BitVec.ofNat 8 (0 : SlotNo).val ∧ (loadTask (.search false) none).lane = some 0 ∧
      (armDoes (loadTask (.search true) (some (.orphan (some 5))))).transport.current =
        some (loadTask (.search true) (some (.orphan (some 5)))) := by decide

/-- Where a move leads in every phase: a LOAD's rise from its spindle leads to its tray (assumption log 18). -/
theorem witness_MoveLeadsTo :
    MoveLeadsTo (loadTask (.lift false) none) 0 ∧ MoveLeadsTo (loadTask (.waitTray true) none) (trayOf 0) ∧
      MoveLeadsTo (loadTask (.rise false) none) (trayOf 0) ∧ MoveLeadsTo (loadTask (.shake 1) none) 0 ∧
      MoveLeadsTo (loadTask .waitFull none) (trayOf 0) := by
  simp [MoveLeadsTo, loadTask]

theorem witness_ArmFails :
    FailsStarting (part .running) (part .running) ∧ (part .starting).port.part = .starting ∧
      FailsStarting (part .starting) (failStarting (part .starting)) ∧
      (let h : State := { armDoes (loadTask (.lift false) none) with
        transport := { (armDoes (loadTask (.lift false) none)).transport with arm := .homing } }
       h.transport.arm = .homing ∧ h.transport.timer = some 0 ∧ h.transport.current = some (loadTask (.lift false) none)) := by
  refine ⟨⟨fun _ => rfl, fun h => absurd h (by decide)⟩, by decide, ⟨fun h => absurd rfl h, fun _ => rfl⟩, by decide⟩

/-- An arm that holds disc 0 for a full or a cleared reject spindle. -/
def waiting (full : Bool) (cargo : Cargo) : State :=
  (armDoes { loadTask .waitFull (some cargo) with task := ⟨.load, 0, 0, stationReject, 0, 0⟩ }).setEntry stationReject
    { StationEntry.reset with full := full }

theorem witness_WaitingForSpindle :
    ArmAt { loadTask .waitFull (some (.disc 0)) with task := ⟨.load, 0, 0, stationReject, 0, 0⟩ } .waitFull (waiting true (.disc 0)) ∧
      (waiting true (.disc 0)).port.part ≠ .stopped ∧ ((waiting true (.disc 0)).entry stationReject).full = true ∧
      ((waiting false (.disc 0)).entry stationReject).full = false ∧ (waiting true (.disc 0)).port.part ≠ .starting :=
  ⟨⟨rfl, rfl, rfl⟩, by decide, by decide, by decide, by decide⟩

/-- A change that the transport status does not show, and one that it shows. -/
theorem witness_StatusItems :
    transportBlock { Transport.reset with liftPos := 5 } = transportBlock Transport.reset ∧
      transportBlock { Transport.reset with arm := .idle } ≠ transportBlock Transport.reset := by decide +kernel

/-- A print of the raster at 0x20000, retiring, with disc 0. -/
def printingLabel : State :=
  (printer { Printer.reset with
    state := .printing, disc := some (.disc ⟨0, 0⟩), bound := some (0x20000, 8), uses := [⟨0x20000, 1, true⟩] }).setDisc 0
    (some { disc with outcome := .passed })

theorem witness_FaultInPrint :
    let s := printingLabel
    s.printer.state ∈ [.printing, .hotHold, .supplyWait] ∧ s.printer.state ≠ .faulted ∧ s.printer.halt = false ∧
      s.printer.bound = some (0x20000, 8) ∧ s.disc 0 = some { disc with outcome := .passed } ∧
      disc.slot = BitVec.ofNat 8 (0 : SlotNo).val ∧ isRetiring 0x20000 s.printer.uses = true ∧
      inUse 0x20000 (releaseUse 0x20000 s.printer.uses) = false ∧
      (printer { Printer.reset with state := .hotHold }).printer.bound = none ∧
      Printer.reset.state ∉ [.printing, .hotHold, .supplyWait] := by decide

/-- A STARTING part whose jobs, map and transport status all read as zeros. -/
def shownPart : State :=
  { part .starting with transport := { Transport.reset with
    gripperClosed := false, map := Vector.replicate 21 { StationEntry.reset with occupancy := .empty } } }

theorem shows_zeros (offset n : Nat) (bs : List Byte) (h : bs = List.replicate n 0) : ShowsAt shownPart offset bs := by
  subst h
  intro k hk
  rw [List.length_replicate] at hk
  rw [List.getD_eq_getElem?_getD, List.getElem?_replicate, if_pos hk]
  rfl

theorem shown_jobs : ∀ j : SlotNo, jobBlock (shownPart.job j) = List.replicate 256 0 := by decide +kernel
theorem shown_map : ∀ k : StationNo, entryBytes (shownPart.entry k) = List.replicate 16 0 := by decide +kernel
theorem shown_status : transportBlock shownPart.transport = List.replicate 64 0 := by decide +kernel

theorem witness_WindowShows :
    MemoriesWf shownPart ∧ shownPart.port.part ≠ .stopped ∧ SheetsBeyond shownPart ∧ WindowShows shownPart ∧
      step shownPart = .next (idleStep shownPart) ∧ (idleStep shownPart).port.part ≠ .stopped :=
  ⟨⟨rfl, rfl⟩, by decide, (by rintro a (⟨h, h1, -⟩ | h) <;> cases (by assumption : (none : Option _) = some _)),
    ⟨fun j => shows_zeros _ _ _ (shown_jobs j), fun k => shows_zeros _ _ _ (shown_map k), shows_zeros _ _ _ shown_status⟩, rfl,
    by decide⟩

end Sys2Proof.Tests
end

section
/-! The statements on the Disc Roster: RELEASE_DISCS, the start-up clean, and the end of writing at CLOSED. First what each shared
operation does and what it leaves; then each statement from these. -/

namespace Sys2Proof.DiscRoster

open Sys2Proof.Machine

/-! ### The transport's changes -/

/-- A report changes the port and host memory alone. -/
theorem report_frame (o : Nat) (bs : List Byte) (s : State) : ∃ p h, report o bs s = { s with port := p, host := h } :=
  ⟨_, _, report_rest o bs s⟩

theorem changeArm_frame (f : Transport → Transport) (s : State) :
    ∃ p h, changeArm f s = { s with port := p, transport := f s.transport, host := h } := by
  unfold changeArm
  dsimp only
  split
  · exact ⟨_, _, rfl⟩
  · exact report_frame _ _ _

@[simp] theorem changeArm_transport (f : Transport → Transport) (s : State) : (changeArm f s).transport = f s.transport := by
  obtain ⟨p, h, heq⟩ := changeArm_frame f s
  rw [heq]

@[simp] theorem changeArm_timeBase (f : Transport → Transport) (s : State) :
    (changeArm f s).port.timeBase = s.port.timeBase := by
  unfold changeArm
  dsimp only
  split <;> simp

theorem beginHoming_frame (s : State) : ∃ p t h, beginHoming s = { s with port := p, transport := t, host := h } := by
  unfold beginHoming startTimer
  obtain ⟨p, h, heq⟩ := changeArm_frame
    (fun t => { t with arm := .homing, posValid := false, homing := some .lift, homeDue := false }) s
  rw [heq]
  exact ⟨_, _, _, rfl⟩

theorem beginHoming_transport (s : State) :
    (beginHoming s).transport = { s.transport with
      arm := .homing, posValid := false, homing := some .lift, homeDue := false, timer := some s.port.timeBase } := by
  simp [beginHoming, startTimer, State.now]

theorem beginHoming_part (s : State) : (beginHoming s).port.part = s.port.part := by
  simp only [beginHoming, startTimer, changeArm_part]

/-! ### The task queue -/

theorem queueTask_frame (k : TaskKind) (r : RequesterNo) (a b : StationNo) (s : State) :
    ∃ p t h, queueTask k r a b s = { s with port := p, transport := t, host := h, signals := s.signals ++ [.select] } := by
  unfold queueTask putTask State.emit
  obtain ⟨p, h, heq⟩ := changeArm_frame
    (fun tr => { tr with queue := tr.queue.set r.val (some ⟨k, r, a, b, s.transport.positions, 0⟩) r.isLt })
    { s with transport := { s.transport with positions := satInc max64 s.transport.positions } }
  dsimp only
  rw [heq]
  exact ⟨_, _, _, rfl⟩

@[simp] theorem queueTask_lanes (k : TaskKind) (r : RequesterNo) (a b : StationNo) (s : State) :
    (queueTask k r a b s).lanes = s.lanes := by
  obtain ⟨p, t, h, heq⟩ := queueTask_frame k r a b s
  rw [heq]

@[simp] theorem queueTask_timeBase (k : TaskKind) (r : RequesterNo) (a b : StationNo) (s : State) :
    (queueTask k r a b s).port.timeBase = s.port.timeBase := by
  simp [queueTask, putTask]

theorem queueTask_queued (k : TaskKind) (r q : RequesterNo) (a b : StationNo) (s : State) :
    (queueTask k r a b s).queued q = if q = r then some ⟨k, r, a, b, s.transport.positions, 0⟩ else s.queued q := by
  simp only [queueTask, putTask, State.queued, State.emit_transport, changeArm_transport]
  exact Vector.getElem_fin_set _ _ _ _

/-! ### Lane states -/

theorem enterLane_frame (n : LaneNo) (st : LaneState) (s : State) :
    ∃ p l h g, enterLane n st s = { s with port := p, lanes := l, host := h, signals := g } := by
  unfold enterLane writeLane State.emit
  split
  · exact ⟨_, _, _, _, rfl⟩
  · obtain ⟨p, h, heq⟩ := report_frame (laneRegion + 128 * n.val)
      (laneBlock ((s.updLane n (Lane.enter st s.now)).lane n) ((s.updLane n (Lane.enter st s.now)).link n).up)
      (s.updLane n (Lane.enter st s.now))
    rw [heq]
    exact ⟨_, _, _, _, rfl⟩

@[simp] theorem enterLane_timeBase (n : LaneNo) (st : LaneState) (s : State) :
    (enterLane n st s).port.timeBase = s.port.timeBase := by
  unfold enterLane writeLane
  split <;> simp

@[simp] theorem enterLane_links (n : LaneNo) (st : LaneState) (s : State) : (enterLane n st s).links = s.links := by
  obtain ⟨p, l, h, g, heq⟩ := enterLane_frame n st s
  rw [heq]

theorem writeLane_lane (n m : LaneNo) (s : State) : (writeLane n s).lane m = s.lane m :=
  State.lane_of_lanes _ _ (report_lanes _ _ _) m

theorem enterLane_lane (n : LaneNo) (st : LaneState) (s : State) :
    (enterLane n st s).lane n = { s.lane n with
      state := st
      trail := if (s.lane n).state = st then (s.lane n).trail else lastEight ((s.lane n).trail ++ [(st, s.port.timeBase)]) } := by
  unfold enterLane
  split
  · next h => simp [← h]
  · next h =>
    rw [State.lane_of_lanes _ _ (State.emit_lanes _ _), writeLane_lane, State.lane_updLane_self]
    simp [Lane.enter, State.now]

theorem enterLane_lane_ne {n m : LaneNo} (st : LaneState) (s : State) (h : m ≠ n) :
    (enterLane n st s).lane m = s.lane m := by
  unfold enterLane
  split
  · rfl
  · rw [State.lane_of_lanes _ _ (State.emit_lanes _ _), writeLane_lane, State.lane_updLane_ne _ _ _ _ h]

theorem mem_enterLane_signals {n : LaneNo} {st : LaneState} {s : State} {sig : Signal} (h : sig ∈ s.signals) :
    sig ∈ (enterLane n st s).signals := by
  unfold enterLane writeLane
  split
  · exact h
  · simp [h]

/-! ### Record changes -/

theorem updDisc_frame (i : DiscNo) (f : DiscRecord → DiscRecord) (s : State) :
    ∃ p r h, updDisc i f s = { s with port := p, roster := r, host := h } := by
  unfold updDisc writeRecord
  split
  · next x _ =>
    split
    · exact ⟨_, _, _, rfl⟩
    · obtain ⟨p, h, heq⟩ := report_frame (rosterRegion + 128 * i.val) (rosterBytes ((s.setDisc i (some (f x))).disc i))
        (s.setDisc i (some (f x)))
      rw [heq]
      exact ⟨_, _, _, rfl⟩
  · exact ⟨_, _, _, rfl⟩

@[simp] theorem updDisc_timeBase (i : DiscNo) (f : DiscRecord → DiscRecord) (s : State) :
    (updDisc i f s).port.timeBase = s.port.timeBase := by
  unfold updDisc writeRecord
  split
  · split <;> simp
  · rfl

@[simp] theorem updDisc_lanes (i : DiscNo) (f : DiscRecord → DiscRecord) (s : State) : (updDisc i f s).lanes = s.lanes := by
  obtain ⟨p, r, h, heq⟩ := updDisc_frame i f s
  rw [heq]

theorem writeRecord_disc (i k : DiscNo) (s : State) : (writeRecord i s).disc k = s.disc k :=
  State.disc_of_roster _ _ (report_roster _ _ _) k

theorem updDisc_disc {i : DiscNo} {r : DiscRecord} {s : State} (f : DiscRecord → DiscRecord) (h : s.disc i = some r) :
    (updDisc i f s).disc i = some (f r) := by
  simp only [updDisc, h]
  split
  · next hf => rw [h, hf]
  · rw [writeRecord_disc, State.disc_setDisc_self]

theorem updDisc_disc_ne {i k : DiscNo} (f : DiscRecord → DiscRecord) (s : State) (h : k ≠ i) :
    (updDisc i f s).disc k = s.disc k := by
  unfold updDisc
  split
  · split
    · rfl
    · rw [writeRecord_disc, State.disc_setDisc_ne _ _ _ _ h]
  · rfl

/-! ### The request for an unload (R80) -/

theorem requestUnload_frame (n : LaneNo) (s : State) :
    ∃ p l t h g, requestUnload n s = { s with port := p, lanes := l, transport := t, host := h, signals := g } := by
  unfold requestUnload
  obtain ⟨p, t, h, hq⟩ := queueTask_frame .unloadLane (requesterOf n) (trayOf n) (unloadDest s n) s
  obtain ⟨p', l, h', g, he⟩ := enterLane_frame n .unloadWait
    (queueTask .unloadLane (requesterOf n) (trayOf n) (unloadDest s n) s)
  rw [he, hq]
  exact ⟨_, _, _, _, _, rfl⟩

theorem requestUnload_lane (n : LaneNo) (s : State) :
    (requestUnload n s).lane n = { s.lane n with
      state := .unloadWait
      trail := if (s.lane n).state = .unloadWait then (s.lane n).trail
        else lastEight ((s.lane n).trail ++ [(.unloadWait, s.port.timeBase)]) } := by
  rw [requestUnload, enterLane_lane, State.lane_of_lanes _ _ (queueTask_lanes _ _ _ _ _), queueTask_timeBase]

theorem requestUnload_lane_ne {n m : LaneNo} (s : State) (h : m ≠ n) : (requestUnload n s).lane m = s.lane m := by
  rw [requestUnload, enterLane_lane_ne _ _ h, State.lane_of_lanes _ _ (queueTask_lanes _ _ _ _ _)]

theorem requestUnload_queued (n : LaneNo) (q : RequesterNo) (s : State) :
    (requestUnload n s).queued q =
      if q = requesterOf n then some ⟨.unloadLane, requesterOf n, trayOf n, unloadDest s n, s.transport.positions, 0⟩
      else s.queued q := by
  obtain ⟨p, l, h, g, heq⟩ := enterLane_frame n .unloadWait
    (queueTask .unloadLane (requesterOf n) (trayOf n) (unloadDest s n) s)
  rw [requestUnload, heq]
  exact queueTask_queued _ _ _ _ _ _

theorem select_mem_requestUnload (n : LaneNo) (s : State) : .select ∈ (requestUnload n s).signals := by
  refine mem_enterLane_signals ?_
  obtain ⟨p, t, h, heq⟩ := queueTask_frame .unloadLane (requesterOf n) (trayOf n) (unloadDest s n) s
  simp [heq]

theorem requestUnload_link (n m : LaneNo) (s : State) : (requestUnload n s).link m = s.link m := by
  obtain ⟨p, l, t, h, g, heq⟩ := requestUnload_frame n s
  rw [heq]
  rfl

theorem requestUnload_disc (n : LaneNo) (i : DiscNo) (s : State) : (requestUnload n s).disc i = s.disc i := by
  obtain ⟨p, l, t, h, g, heq⟩ := requestUnload_frame n s
  rw [heq]
  rfl

theorem unloadDest_of_empty {n : LaneNo} {s : State} (h : (s.lane n).disc = none) : unloadDest s n = stationReject := by
  simp [unloadDest, h]

theorem unloadDest_of_disc {n : LaneNo} {s : State} {d : DiscRef} {x : DiscRecord} (hd : (s.lane n).disc = some d)
    (hx : s.disc d.index = some x) :
    unloadDest s n = if x.outcome = .passed then
      (if (s.job d.slot).record.map (·.print) = some true then stationPrinter else stationOutput) else stationReject := by
  have hprints : jobPrints s d.slot = true ↔ (s.job d.slot).record.map (·.print) = some true := by
    unfold jobPrints
    cases (s.job d.slot).record <;> simp
  simp only [unloadDest, hd, discDest, hx, hprints]

/-! ### The entry to VERIFYING (R108, R109) -/

theorem startBlock_frame (n : LaneNo) (sectors start : Nat) (s : State) :
    ∃ l k, startBlock n sectors start s = { s with lanes := l, links := k } := by
  unfold startBlock sendMsg
  dsimp only
  split <;> exact ⟨_, _, rfl⟩

theorem sendMsg_lanes (n : LaneNo) (msg : LaneMsg) (s : State) : (sendMsg n msg s).lanes = s.lanes := by
  unfold sendMsg
  split <;> rfl

theorem startBlock_lane (n : LaneNo) (sectors start : Nat) (s : State) :
    (startBlock n sectors start s).lane n = { s.lane n with
      fifo := []
      verify := { (s.lane n).verify with blockStart := start, blockCount := blockSize sectors start, received := [] }
      waits := { (s.lane n).waits with readBlock := some s.port.timeBase } } := by
  simp only [startBlock, setWaits, State.lane_updLane_self, State.lane_of_lanes _ _ (sendMsg_lanes _ _ _), State.now]

theorem startBlock_lane_ne {n m : LaneNo} (sectors start : Nat) (s : State) (h : m ≠ n) :
    (startBlock n sectors start s).lane m = s.lane m := by
  simp only [startBlock, setWaits, State.lane_updLane_ne _ _ _ _ h, State.lane_of_lanes _ _ (sendMsg_lanes _ _ _)]

theorem startBlock_link {n : LaneNo} {s : State} (sectors start : Nat) (h : (s.link n).up = true) (m : LaneNo) :
    (startBlock n sectors start s).link m =
      if m = n then { s.link n with outbound := (s.link n).outbound ++ [.read start (blockSize sectors start)] } else s.link m := by
  have hlink : ∀ (f : Lane → Lane) (t : State) (k : LaneNo), (t.updLane n f).link k = t.link k := fun _ _ _ => rfl
  simp only [startBlock, setWaits, sendMsg, hlink, h, if_true, State.link_setLink]

theorem enterVerifying_frame (n : LaneNo) (sectors : Nat) (s : State) :
    ∃ p l k h g, enterVerifying n sectors s = { s with port := p, lanes := l, links := k, host := h, signals := g } := by
  unfold enterVerifying
  obtain ⟨p, l, h, g, he⟩ := enterLane_frame n .verifying (s.updLane n fun l => { l with verify := VerifyState.reset })
  rw [he]
  obtain ⟨l', k, hb⟩ := startBlock_frame n sectors 0
    { (s.updLane n fun l => { l with verify := VerifyState.reset }) with port := p, lanes := l, host := h, signals := g }
  rw [hb]
  exact ⟨_, _, _, _, _, rfl⟩

/-- The lane reads block 0 with its verify counts at their start. -/
theorem enterVerifying_lane (n : LaneNo) (sectors : Nat) (s : State) :
    ((enterVerifying n sectors s).lane n).state = .verifying ∧
      ((enterVerifying n sectors s).lane n).faultRun = (s.lane n).faultRun ∧
      ((enterVerifying n sectors s).lane n).verify =
        { VerifyState.reset with blockStart := 0, blockCount := min 32 sectors, received := [] } ∧
      ((enterVerifying n sectors s).lane n).waits.readBlock = some s.port.timeBase := by
  simp [enterVerifying, startBlock_lane, enterLane_lane, blockSize]

theorem enterVerifying_lane_ne {n m : LaneNo} (sectors : Nat) (s : State) (h : m ≠ n) :
    (enterVerifying n sectors s).lane m = s.lane m := by
  rw [enterVerifying, startBlock_lane_ne _ _ _ h, enterLane_lane_ne _ _ h, State.lane_updLane_ne _ _ _ _ h]

theorem enterVerifying_link {n : LaneNo} {s : State} (sectors : Nat) (h : (s.link n).up = true) (m : LaneNo) :
    (enterVerifying n sectors s).link m =
      if m = n then { s.link n with outbound := (s.link n).outbound ++ [.read 0 (min 32 sectors)] } else s.link m := by
  have hlink : ∀ k, (enterLane n .verifying (s.updLane n fun l => { l with verify := VerifyState.reset })).link k = s.link k :=
    State.link_of_links _ _ (enterLane_links _ _ _)
  rw [enterVerifying, startBlock_link _ _ (by rw [hlink]; exact h)]
  simp only [hlink, blockSize, Nat.sub_zero]

/-! ### CLOSED (R35, R78, R83) -/

theorem exec_closed {n : LaneNo} {s : State} (h : (s.link n).up = true) :
    exec (.closed n) s = .next (settle (driveClosed n s)) := by
  change Host.Outcome.next (settle (deliver n .closed s)) = _
  simp [deliver, h, takeMessage, messageFormed, takeFormed]

theorem driveClosed_stray {n : LaneNo} {s : State} (h : (s.lane n).state ≠ .closing ∨ (s.lane n).waits.closed = none) :
    driveClosed n s = strayMessage n s := by
  refine if_neg ?_
  rintro ⟨hclosing, hwait⟩
  rcases h with h | h
  · exact h hclosing
  · simp [h] at hwait

/-- What the awaited CLOSED has recorded when the lane goes on: the record's write totals, write end and outcome, and the lane's wait and
fault run. -/
structure WriteEnded (n : LaneNo) (d : DiscRef) (y : DiscRecord) (s v : State) : Prop where
  lane : v.lane n = { s.lane n with waits := { (s.lane n).waits with closed := none }, faultRun := 0 }
  others : ∀ m, m ≠ n → v.lane m = s.lane m
  record : v.disc d.index = some y
  records : ∀ i, i ≠ d.index → v.disc i = s.disc i
  time : v.port.timeBase = s.port.timeBase
  jobs : v.jobs = s.jobs
  links : v.links = s.links
  transport : v.transport = s.transport

/-- The fault run cleared, where it is not clear, after the record has been updated. -/
theorem writeEnded_of_updDisc {n : LaneNo} {d : DiscRef} {x y : DiscRecord} {s : State} (f : DiscRecord → DiscRecord)
    (hx : s.disc d.index = some x) (hy : f x = y) (t : State)
    (ht : t = updDisc d.index f (s.updLane n fun l => { l with waits := { l.waits with closed := none } })) :
    WriteEnded n d y s
      (if (s.lane n).faultRun = 0 then t else writeLane n (t.updLane n fun l => { l with faultRun := 0 })) := by
  have hlane : t.lane n = { s.lane n with waits := { (s.lane n).waits with closed := none } } := by
    rw [ht, State.lane_of_lanes _ _ (updDisc_lanes _ _ _), State.lane_updLane_self]
  have hothers : ∀ m, m ≠ n → t.lane m = s.lane m := fun m hm => by
    rw [ht, State.lane_of_lanes _ _ (updDisc_lanes _ _ _), State.lane_updLane_ne _ _ _ _ hm]
  have hrecord : t.disc d.index = some y := by rw [ht, ← hy]; exact updDisc_disc f hx
  have hrecords : ∀ i, i ≠ d.index → t.disc i = s.disc i := fun i hi => ht ▸ updDisc_disc_ne f _ hi
  have htime : t.port.timeBase = s.port.timeBase := by simp [ht]
  have hrest : t.jobs = s.jobs ∧ t.links = s.links ∧ t.transport = s.transport := by
    obtain ⟨p, r, h, heq⟩ := updDisc_frame d.index f (s.updLane n fun l => { l with waits := { l.waits with closed := none } })
    rw [ht, heq]
    exact ⟨rfl, rfl, rfl⟩
  obtain ⟨hjobs, hlinks, htransport⟩ := hrest
  split
  · next hrun => exact ⟨by rw [hlane, ← hrun], hothers, hrecord, hrecords, htime, hjobs, hlinks, htransport⟩
  · have hdisc : ∀ i, (writeLane n (t.updLane n fun l => { l with faultRun := 0 })).disc i = t.disc i :=
      State.disc_of_roster _ _ (report_roster _ _ _)
    refine ⟨?_, fun m hm => ?_, (hdisc _).trans hrecord, fun i hi => (hdisc i).trans (hrecords i hi),
      (report_port_timeBase _ _ _).trans htime, (report_jobs _ _ _).trans hjobs, (report_links _ _ _).trans hlinks,
      (report_transport _ _ _).trans htransport⟩
    · rw [writeLane_lane, State.lane_updLane_self, hlane]
    · rw [writeLane_lane, State.lane_updLane_ne _ _ _ _ hm, hothers m hm]

/-- The awaited CLOSED: the write's end is recorded, then the lane asks for its unload or verifies the disc. -/
theorem driveClosed_awaited {n : LaneNo} {s : State} {d : DiscRef} {r : JobRecord} {x : DiscRecord}
    (hclosing : (s.lane n).state = .closing) (hwait : (s.lane n).waits.closed ≠ none) (hd : (s.lane n).disc = some d)
    (hr : laneRecord s n = some r) (hx : s.disc d.index = some x) :
    ∃ v, WriteEnded n d { x with
          totals := some (laneTotals (s.lane n)), writeEnd := some (x.writeEnd.getD s.port.timeBase)
          outcome := if r.verifyMode = .off then .passed else x.outcome } s v ∧
      driveClosed n s = if r.verifyMode = .off then requestUnload n v else enterVerifying n r.imageSectors v := by
  have hawaited : (s.lane n).state = .closing ∧ (s.lane n).waits.closed.isSome = true :=
    ⟨hclosing, Option.isSome_iff_ne_none.mpr hwait⟩
  refine ⟨_, ?_, by simp only [driveClosed, if_pos hawaited, hd, hr]; rfl⟩
  refine writeEnded_of_updDisc _ hx ?_ _ rfl
  by_cases hoff : r.verifyMode = .off
  · simp only [if_pos hoff, stampOnce, State.now]
  · simp only [if_neg hoff, stampOnce, State.now]

/-- Settles O31, from what the awaited CLOSED records and what each way on does. -/
theorem closedEndsWriting : Obligations.ClosedEndsWriting := by
  unfold Obligations.ClosedEndsWriting
  refine ⟨fun n s hup => ⟨fun hstray => by rw [exec_closed hup, driveClosed_stray hstray],
    fun d r x hclosing hwait hd hr hx => ?_⟩, fun n s => ?_⟩
  · obtain ⟨v, hv, hdrive⟩ := driveClosed_awaited hclosing hwait hd hr hx
    have hlinks : ∀ m, v.link m = s.link m := State.link_of_links _ _ hv.links
    have hjobs : ∀ j, v.job j = s.job j := State.job_of_jobs _ _ hv.jobs
    refine ⟨_, exec_closed hup, ?_⟩
    rw [hdrive]
    by_cases hoff : r.verifyMode = .off
    · simp only [if_pos hoff] at hv ⊢
      have hdest : unloadDest v n = if r.print then stationPrinter else stationOutput := by
        have hjob : (s.job d.slot).record = some r := by simpa [laneRecord, hd] using hr
        rw [unloadDest_of_disc (by rw [hv.lane]; exact hd) hv.record, hjobs, hjob]
        simp
      refine ⟨by rw [requestUnload_lane, hv.lane], by rw [requestUnload_disc, hv.record],
        fun i hi => by rw [requestUnload_disc, hv.records i hi], fun _ => ⟨by rw [requestUnload_lane], ?_, ?_⟩,
        fun h => absurd hoff h, fun m hm => ⟨?_, ?_⟩⟩
      · rw [requestUnload_link, hlinks]
      · exact ⟨_, by rw [requestUnload_queued, if_pos rfl], rfl, rfl, hdest⟩
      · rw [requestUnload_lane_ne _ hm, hv.others m hm]
      · rw [requestUnload_link, hlinks]
    · simp only [if_neg hoff] at hv ⊢
      have hvup : (v.link n).up = true := by rw [hlinks]; exact hup
      obtain ⟨hstate, hrun, hverify, hread⟩ := enterVerifying_lane n r.imageSectors v
      obtain ⟨p, l, k, h, g, hframe⟩ := enterVerifying_frame n r.imageSectors v
      have hdisc : ∀ i, (enterVerifying n r.imageSectors v).disc i = v.disc i :=
        State.disc_of_roster _ _ (by rw [hframe])
      refine ⟨by rw [hrun, hv.lane], by rw [hdisc, hv.record], fun i hi => by rw [hdisc, hv.records i hi],
        fun h => absurd h hoff, fun _ => ⟨hstate, by rw [hverify], by rw [hverify], by rw [hread, hv.time], ?_, ?_⟩,
        fun m hm => ⟨?_, ?_⟩⟩
      · rw [enterVerifying_link _ hvup, if_pos rfl, hlinks]
      · rw [hframe, hv.transport]
      · rw [enterVerifying_lane_ne _ _ hm, hv.others m hm]
      · rw [enterVerifying_link _ hvup, if_neg hm, hlinks]
  · obtain ⟨p, l, t, h, g, hframe⟩ := requestUnload_frame n s
    exact ⟨requestUnload n s, unloadDest s n, rfl, requestUnload_lane n s, fun m hm => requestUnload_lane_ne s hm,
      by rw [requestUnload_queued, if_pos rfl], fun q hq => by rw [requestUnload_queued, if_neg hq],
      unloadDest_of_empty, fun d x hd hx => unloadDest_of_disc hd hx, select_mem_requestUnload n s, by rw [hframe]⟩

/-! ### The start-up clean (R40 to R42, R145) -/

/-- The allocation map's entry that an action of the clean leaves. -/
def cleanedEntry : CleanAction → Option DiscRecord
  | .leaveFree => none
  | .keep r => some r
  | .rewrite r => some r
  | .rewriteReset r => some r
  | .rewriteFree => none

/-- Whatever the clean does with a record, its entry is set and the window and the log alone may be written besides. -/
theorem cleanRecord_frame (i : DiscNo) (b : List Byte) (s : State) :
    ∃ p h, cleanRecord i b s = { s with
      port := p, roster := ⟨s.roster.map.set i.val (cleanedEntry (cleanAction b)) i.isLt, s.roster.clean⟩, host := h } := by
  unfold cleanRecord writeRecord
  cases cleanAction b with
  | leaveFree => exact ⟨_, _, rfl⟩
  | keep r => exact ⟨_, _, rfl⟩
  | rewrite r => exact report_frame _ _ (s.setDisc i (some r))
  | rewriteReset r =>
    obtain ⟨p, h, heq⟩ := report_frame (rosterRegion + 128 * i.val) (rosterBytes ((s.setDisc i (some r)).disc i))
      (s.setDisc i (some r))
    dsimp only
    rw [heq]
    exact ⟨_, _, logEntry_rest _ _ _ _⟩
  | rewriteFree => exact report_frame _ _ (s.setDisc i none)

theorem cleanRecord_part (i : DiscNo) (b : List Byte) (s : State) : (cleanRecord i b s).port.part = s.port.part := by
  unfold cleanRecord writeRecord
  split <;> simp

theorem cleanAction_free {b : List Byte} (h : fieldAt b 0 1 = 0) : cleanAction b = .leaveFree := by
  simp [cleanAction, h]

theorem cleanAction_good {b : List Byte} (h : fieldAt b 0 1 = DiscOutcome.good.code) :
    cleanAction b = .keep (discOfBytes .good b) := by
  simp [cleanAction, h, DiscOutcome.code, outcomeOf]

theorem cleanAction_rejected {b : List Byte} (h : fieldAt b 0 1 = DiscOutcome.rejected.code) :
    cleanAction b = if (discOfBytes .rejected b).location = .reject then .keep (discOfBytes .rejected b)
      else .rewrite { discOfBytes .rejected b with location := .nowhere } := by
  simp [cleanAction, h, DiscOutcome.code, outcomeOf]

theorem cleanAction_unfinished {b : List Byte} (h : fieldAt b 0 1 = DiscOutcome.reserved.code ∨
    fieldAt b 0 1 = DiscOutcome.pending.code ∨ fieldAt b 0 1 = DiscOutcome.passed.code) :
    cleanAction b = .rewriteReset { discOfBytes .rejected b with location := .nowhere, reason := some .reset } := by
  rcases h with h | h | h <;> simp [cleanAction, h, DiscOutcome.code, outcomeOf]

theorem outcomeOf_unrecognised {v : Nat} (h : 5 < v) : outcomeOf v = none := by
  unfold outcomeOf
  split
  case h_6 => rfl
  all_goals omega

theorem cleanAction_unrecognised {b : List Byte} (h : 5 < fieldAt b 0 1) : cleanAction b = .rewriteFree := by
  unfold cleanAction
  split
  · omega
  · rw [outcomeOf_unrecognised h]

theorem exec_rosterRecordRead_data {bs : List Byte} {d : DiscNo} {s : State} (hpart : s.port.part = .starting)
    (hclean : s.roster.clean = some d.val) :
    exec (.rosterRecordRead (.data bs)) s = .next (settle (cleanNext d.val (cleanRecord d (fitBytes 128 bs) s))) := by
  have hd : toIndex 256 d.val = some d := dif_pos d.isLt
  change execRosterRecordRead (.data bs) s = _
  simp only [execRosterRecordRead, hpart, hclean, hd]

theorem exec_rosterRecordRead_error {d : DiscNo} {s : State} (hpart : s.port.part = .starting)
    (hclean : s.roster.clean = some d.val) : exec (.rosterRecordRead .error) s = .next (settle (cleanFails s)) := by
  change execRosterRecordRead .error s = _
  simp only [execRosterRecordRead, hpart, hclean]

theorem cleanNext_frame (i : Nat) (s : State) :
    ∃ p c t h, cleanNext i s = { s with port := p, roster := ⟨s.roster.map, c⟩, transport := t, host := h } := by
  unfold cleanNext homeAfterClean
  split
  · exact ⟨_, _, _, _, rfl⟩
  · split
    · exact ⟨_, _, _, _, rfl⟩
    · obtain ⟨p, t, h, heq⟩ := beginHoming_frame { s with roster := { s.roster with clean := none } }
      rw [heq]
      exact ⟨_, _, _, _, rfl⟩

theorem cleanNext_next {i : Nat} (s : State) (h : i < 255) :
    cleanNext i s = { s with roster := { s.roster with clean := some (i + 1) } } := if_pos h

/-- After record 255 the clean is over and the arm homes, or will once the STOP input is negated. -/
theorem cleanNext_last {i : Nat} (s : State) (h : i = 255) :
    (cleanNext i s).roster.clean = none ∧ (cleanNext i s).port.part = s.port.part ∧
      (s.pins.stop = false → (cleanNext i s).transport.arm = .homing ∧ (cleanNext i s).transport.homing = some .lift ∧
        (cleanNext i s).transport.posValid = false) ∧
      (s.pins.stop = true → (cleanNext i s).transport = { s.transport with homeDue := true }) := by
  subst h
  cases hstop : s.pins.stop
  · have hhome : cleanNext 255 s = beginHoming { s with roster := { s.roster with clean := none } } := by
      simp [cleanNext, homeAfterClean, hstop]
    rw [hhome, beginHoming_transport, beginHoming_part]
    obtain ⟨p, t, h, heq⟩ := beginHoming_frame { s with roster := { s.roster with clean := none } }
    exact ⟨by rw [heq], rfl, fun _ => ⟨rfl, rfl, rfl⟩, fun h => absurd h (by decide)⟩
  · simp [cleanNext, homeAfterClean, hstop]

theorem cleanFails_acts (s : State) :
    (cleanFails s).port.part = .faulted ∧ (cleanFails s).transport.arm = .unhomed ∧
      (cleanFails s).transport.posValid = false ∧ (cleanFails s).roster = ⟨Vector.replicate 256 none, none⟩ ∧
      cleanFails s = { s with
        port := (cleanFails s).port, roster := (cleanFails s).roster, transport := (cleanFails s).transport
        host := (cleanFails s).host } := by
  unfold cleanFails setPart putHeader windowWrite hostWrite
  obtain ⟨p, h, heq⟩ := changeArm_frame (fun t => { t with arm := .unhomed, posValid := false, homeDue := false })
    { s with roster := Roster.reset }
  rw [heq]
  exact ⟨rfl, rfl, rfl, by simp only [Roster.reset], by dsimp only⟩

/-- What a read of the clean leaves whatever the record holds: its entry is the action's, every other stands, and the clean goes on. -/
theorem clean_step {d : DiscNo} {s : State} (b : List Byte) (hpart : s.port.part = .starting) :
    let u := cleanNext d.val (cleanRecord d b s)
    u.disc d = cleanedEntry (cleanAction b) ∧ (∀ k, k ≠ d → u.disc k = s.disc k) ∧
      u = { s with port := u.port, roster := u.roster, transport := u.transport, host := u.host } ∧
      (d.val < 255 → u.roster.clean = some (d.val + 1) ∧ u.transport = s.transport ∧
        u.port = (cleanRecord d b s).port ∧ u.host = (cleanRecord d b s).host) ∧
      (d.val = 255 → u.roster.clean = none ∧ u.port.part = .starting ∧
        (s.pins.stop = false → u.transport.arm = .homing ∧ u.transport.homing = some .lift ∧ u.transport.posValid = false) ∧
        (s.pins.stop = true → u.transport = { s.transport with homeDue := true })) := by
  intro u
  obtain ⟨p, h, hrecord⟩ := cleanRecord_frame d b s
  obtain ⟨p', c, t, h', hgoes⟩ := cleanNext_frame d.val (cleanRecord d b s)
  have htransport : (cleanRecord d b s).transport = s.transport := by rw [hrecord]
  have hpins : (cleanRecord d b s).pins = s.pins := by rw [hrecord]
  have hu : u = { s with
      port := p', roster := ⟨s.roster.map.set d.val (cleanedEntry (cleanAction b)) d.isLt, c⟩, transport := t, host := h' } :=
    hgoes.trans (by rw [hrecord])
  have hdisc : ∀ k, u.disc k = if k = d then cleanedEntry (cleanAction b) else s.disc k := fun k => by
    rw [hu]
    exact Vector.getElem_fin_set _ _ _ _
  refine ⟨by rw [hdisc, if_pos rfl], fun k hk => by rw [hdisc, if_neg hk], by rw [hu], fun hnext => ?_, fun hlast => ?_⟩
  · rw [show u = _ from cleanNext_next (cleanRecord d b s) hnext]
    exact ⟨rfl, htransport, rfl, rfl⟩
  · have h := cleanNext_last (cleanRecord d b s) hlast
    rw [cleanRecord_part, hpart, hpins, htransport] at h
    exact h

/-- A record that the clean keeps or finds FREE is not written. -/
theorem cleanRecord_unwritten {d : DiscNo} {b : List Byte} {s : State}
    (h : cleanAction b = .leaveFree ∨ ∃ r, cleanAction b = .keep r) :
    (cleanRecord d b s).port = s.port ∧ (cleanRecord d b s).host = s.host := by
  rcases h with h | ⟨r, h⟩ <;> simp [cleanRecord, h]

/-- Settles O24, by the action the clean takes for each outcome. -/
theorem rosterCleanActs : Obligations.RosterCleanActs := by
  unfold Obligations.RosterCleanActs
  rintro bs b d s hpart hclean rfl put written takes
  have htakes : ∀ t, cleanRecord d (fitBytes 128 bs) s = t → takes t := by
    rintro t rfl
    exact exec_rosterRecordRead_data hpart hclean
  obtain ⟨hentry, hothers, hrest, hnext, hlast⟩ := clean_step (d := d) (fitBytes 128 bs) hpart
  refine ⟨fun h => htakes _ ?_, fun h => htakes _ ?_, fun h => ⟨fun hl => htakes _ ?_, fun hl => htakes _ ?_⟩,
    fun h => htakes _ ?_, fun h => htakes _ ?_, ⟨_, exec_rosterRecordRead_data hpart hclean, hothers, hrest, fun h => ?_,
      fun h => ?_, fun h => ⟨fun hl => ?_, fun hl => ?_⟩, fun h => ?_, fun h => ?_, fun hd => ?_, hlast⟩, ?_⟩
  · simp only [cleanRecord, cleanAction_free h]; rfl
  · simp only [cleanRecord, cleanAction_good h]; rfl
  · simp only [cleanRecord, cleanAction_rejected h, if_pos hl]; rfl
  · simp only [cleanRecord, cleanAction_rejected h, if_neg hl, writeRecord, State.disc_setDisc_self]; rfl
  · simp only [cleanRecord, cleanAction_unfinished h, writeRecord, State.disc_setDisc_self]; rfl
  · simp only [cleanRecord, cleanAction_unrecognised h, writeRecord, State.disc_setDisc_self]; rfl
  · rw [hentry, cleanAction_free h, cleanedEntry]
  · rw [hentry, cleanAction_good h, cleanedEntry]
  · rw [hentry, cleanAction_rejected h, if_pos hl, cleanedEntry]
  · rw [hentry, cleanAction_rejected h, if_neg hl, cleanedEntry]
  · rw [hentry, cleanAction_unfinished h, cleanedEntry]
  · rw [hentry, cleanAction_unrecognised h, cleanedEntry]
  · obtain ⟨hrecord, htransport, hport, hhost⟩ := hnext hd
    refine ⟨hrecord, htransport, fun hkept => ?_⟩
    rw [hport, hhost]
    refine cleanRecord_unwritten ?_
    rcases hkept with h | h | ⟨h, hl⟩
    · exact .inl (cleanAction_free h)
    · exact .inr ⟨_, cleanAction_good h⟩
    · exact .inr ⟨_, by rw [cleanAction_rejected h, if_pos hl]⟩
  · exact ⟨_, exec_rosterRecordRead_error hpart hclean, cleanFails_acts s⟩

/-! ### RELEASE_DISCS (R33, R38) -/

theorem runEntry_atEntry {k : RequestKind} {e : List Byte} {s : State} (take : List Byte → State → Answer)
    (h : AtEntry k e s) : runEntry k take s = writeAnswer (take e s) := by
  obtain ⟨hentry, hkind, hpart⟩ := h
  simp [runEntry, hentry, hkind, hpart]

theorem releasable_iff (r : DiscRecord) :
    releasable r = true ↔ (r.outcome = .good ∨ r.outcome = .rejected) ∧ (r.location = .output ∨ r.location = .reject) := by
  simp [releasable]

theorem toIndex_val {n v : Nat} {d : Fin n} (h : v = d.val) : toIndex n v = some d := by
  subst h
  exact dif_pos d.isLt

theorem releaseEntry_released {e : List Byte} {i : Nat} {x : Release} {d : DiscNo} {r : DiscRecord}
    (hd : reqIndex e i = d.val) (hr : x.state.disc d = some r) (h : releasable r = true) :
    releaseEntry e i x = { x with count := x.count + 1, state := settle (freeRecord d x.state) } := by
  simp [releaseEntry, toIndex_val hd, hr, h]

theorem releaseEntry_beyond {e : List Byte} {i : Nat} (x : Release) (h : 256 ≤ reqIndex e i) :
    releaseEntry e i x = { x with skipped := x.skipped + 2 ^ i } := by
  have hnone : toIndex 256 (reqIndex e i) = none := dif_neg (Nat.not_lt.mpr h)
  simp [releaseEntry, hnone]

theorem releaseEntry_free {e : List Byte} {i : Nat} {x : Release} {d : DiscNo} (hd : reqIndex e i = d.val)
    (hr : x.state.disc d = none) : releaseEntry e i x = { x with skipped := x.skipped + 2 ^ i } := by
  simp [releaseEntry, toIndex_val hd, hr]

theorem releaseEntry_held {e : List Byte} {i : Nat} {x : Release} {d : DiscNo} {r : DiscRecord}
    (hd : reqIndex e i = d.val) (hr : x.state.disc d = some r) (h : ¬ releasable r = true) :
    releaseEntry e i x = { x with skipped := x.skipped + 2 ^ i } := by
  simp [releaseEntry, toIndex_val hd, hr, h]

/-- An entry of the list takes its own reports, so none is left for the next. -/
theorem releaseEntry_settled {x : Release} (e : List Byte) (i : Nat) (h : Settled x.state) :
    Settled (releaseEntry e i x).state := by
  unfold releaseEntry
  split
  · split
    · split
      · exact settle_signals _
      · exact h
    · exact h
  · exact h

theorem foldl_releaseEntry_settled (e : List Byte) (l : List Nat) {x : Release} (h : Settled x.state) :
    Settled (l.foldl (fun x i => releaseEntry e i x) x).state := by
  induction l generalizing x with
  | nil => exact h
  | cons i rest ih => exact ih (releaseEntry_settled e i h)

/-- RELEASE_DISCS run at its entry: its owner's answer is written. -/
theorem exec_releaseDiscs {e : List Byte} {s : State} (h : AtEntry .releaseDiscs e s) :
    exec .releaseDiscs s = .next (writeAnswer (takeReleaseDiscs e s)) :=
  congrArg Host.Outcome.next (runEntry_atEntry takeReleaseDiscs h)

/-- Settles O18, by the count and the cases of an entry. -/
theorem releaseDiscsTaken : Obligations.ReleaseDiscsTaken := by
  unfold Obligations.ReleaseDiscsTaken
  intro e s hsettled hentry
  refine ⟨fun hcount => ?_, fun hlow hhigh => ⟨_, rfl, ?_⟩, fun i x => ⟨fun d r hd hr ho hl => ?_, ?_⟩⟩
  · rw [exec_releaseDiscs hentry, takeReleaseDiscs, if_pos hcount, writeAnswer, refuse, settle_nil hsettled]
  · have hinside : ¬ (reqCount e < 1 ∨ 24 < reqCount e) := by omega
    have hleft := foldl_releaseEntry_settled e (List.range (reqCount e)) (x := ⟨0, 0, s⟩) hsettled
    rw [exec_releaseDiscs hentry, takeReleaseDiscs, if_neg hinside, writeAnswer, settle_nil hleft]
  · exact releaseEntry_released hd hr ((releasable_iff r).mpr ⟨ho, hl⟩)
  · rintro (hbeyond | ⟨d, hd, hfree | ⟨r, hr, hout⟩⟩)
    · exact releaseEntry_beyond x hbeyond
    · exact releaseEntry_free hd hfree
    · refine releaseEntry_held hd hr fun h => ?_
      obtain ⟨ho, hl⟩ := (releasable_iff r).mp h
      simp only [List.mem_cons, List.not_mem_nil, or_false] at hout
      exact hout.elim (· ho) (· hl)

end Sys2Proof.DiscRoster
end

section
/-! The statement on the Image Cache and the Fetch Engine: the ends of a fill's host reads, and the fill that the engine starts next.
First the choices (of a request, of a lane, of a frame), then a fill's start, then its ends and what the lanes are told. -/

namespace Sys2Proof.ImageCache

open Sys2Proof.Machine

/-! ### The first index of a test -/

theorem firstIndex_val {α : Type} {n : Nat} (v : Vector α n) (test : α → Bool) :
    (firstIndex v test).map Fin.val = v.toList.findIdx? test := by
  unfold firstIndex
  split
  · next k hk =>
    obtain ⟨hlt, -⟩ := List.findIdx?_eq_some_iff_getElem.mp hk
    rw [hk, dif_pos (by simpa using hlt), Option.map_some]
  · next hk => rw [hk, Option.map_none]

theorem firstIndex_eq_some {α : Type} {n : Nat} {v : Vector α n} {test : α → Bool} {i : Fin n} :
    firstIndex v test = some i ↔ test v[i] = true ∧ ∀ j : Fin n, j < i → test v[j] = false := by
  have hfind : firstIndex v test = some i ↔ v.toList.findIdx? test = some i.val := by
    rw [← firstIndex_val]
    cases firstIndex v test with
    | none => exact ⟨(fun h => nomatch h), (fun h => nomatch h)⟩
    | some k => simp only [Option.map_some, Option.some.injEq, Fin.ext_iff]
  rw [hfind, List.findIdx?_eq_some_iff_getElem]
  constructor
  · rintro ⟨_, hi, hbefore⟩
    exact ⟨by simpa using hi, fun j hj => by simpa using hbefore j.val hj⟩
  · rintro ⟨hi, hbefore⟩
    exact ⟨by simp, by simpa using hi, fun j hj => by simpa using hbefore ⟨j, by omega⟩ hj⟩

theorem firstIndex_eq_none {α : Type} {n : Nat} {v : Vector α n} {test : α → Bool} :
    firstIndex v test = none ↔ ∀ i : Fin n, test v[i] = false := by
  rw [← Option.map_eq_none_iff (f := Fin.val), firstIndex_val, List.findIdx?_eq_none_iff]
  simp only [Vector.mem_toList_iff, Vector.mem_iff_getElem, Fin.forall_iff]
  exact ⟨fun h i hi => h _ ⟨i, hi, rfl⟩, by rintro h _ ⟨i, hi, rfl⟩; exact h i hi⟩

/-! ### The least element of a list -/

/-- The least element of a list in an order, the earlier one among equals. -/
def leastBy {α : Type} (le : α → α → Bool) : List α → Option α
  | [] => none
  | x :: rest =>
    match leastBy le rest with
    | none => some x
    | some y => if le x y then some x else some y

theorem leastBy_eq_none {α : Type} {le : α → α → Bool} {l : List α} : leastBy le l = none ↔ l = [] := by
  cases l with
  | nil => simp [leastBy]
  | cons x rest =>
    simp only [leastBy]
    split
    · simp
    · split <;> simp

theorem leastBy_eq_some {α : Type} {le : α → α → Bool} (total : ∀ a b, le a b = true ∨ le b a = true)
    (trans : ∀ a b c, le a b = true → le b c = true → le a c = true) {l : List α} {m : α} (h : leastBy le l = some m) :
    m ∈ l ∧ ∀ x, x ∈ l → le m x = true := by
  have refl : ∀ a, le a a = true := fun a => (total a a).elim id id
  induction l generalizing m with
  | nil => exact nomatch h
  | cons x rest ih =>
    rw [leastBy] at h
    cases hrest : leastBy le rest with
    | none =>
      obtain rfl : rest = [] := leastBy_eq_none.mp hrest
      obtain rfl : x = m := by simpa [hrest] using h
      simp [refl]
    | some y =>
      obtain ⟨hy, hleast⟩ := ih hrest
      simp only [hrest] at h
      by_cases hxy : le x y = true
      · obtain rfl : x = m := by simpa [hxy] using h
        refine ⟨List.mem_cons_self, fun z hz => ?_⟩
        rcases List.mem_cons.mp hz with rfl | hz
        · exact refl z
        · exact trans _ _ _ hxy (hleast z hz)
      · obtain rfl : y = m := by simpa [hxy] using h
        refine ⟨List.mem_cons_of_mem _ hy, fun z hz => ?_⟩
        rcases List.mem_cons.mp hz with rfl | hz
        · exact (total z y).resolve_left hxy
        · exact hleast z hz

/-! ### Lead times (R57) -/

/-- The sectors that a pin of a lane has ahead of the next one to copy. -/
def pinAhead (s : State) (n : LaneNo) (p : LanePin) : Nat :=
  if p.kind = .write ∧ p.frame.map (fun f => (s.frame f).state) = some .resident then
    64 * p.page + min 64 (imageSectors s p.slot - 64 * p.page) - max (s.lane n).nextCopy (64 * p.page)
  else 0

theorem residentAhead_eq_sum (s : State) (n : LaneNo) (pins : List LanePin) :
    residentAhead s n pins = (pins.map (pinAhead s n)).sum := by
  induction pins with
  | nil => rfl
  | cons p rest ih =>
    rw [residentAhead, List.map_cons, List.sum_cons, ih]
    congr 1
    cases hframe : p.frame with
    | none => simp [pinAhead, hframe]
    | some f => simp [pinAhead, hframe, sectorsAhead, sectorsInPage]

theorem leadTime_of_rate {n : LaneNo} {rate : Nat} {s : State} (h : (s.lane n).rate = some rate) :
    leadTime s n = ((s.lane n).fifo.length + ((s.lane n).pins.map (pinAhead s n)).sum) * 1000000 / rate := by
  rw [leadTime, residentAhead_eq_sum, h, orZero, Option.getD_some]

/-- A lane leads another: a smaller lead time, or the lower number among equals. -/
def leads (s : State) (n m : LaneNo) : Bool :=
  decide (leadTime s n < leadTime s m ∨ (leadTime s n = leadTime s m ∧ n ≤ m))

theorem leads_iff {s : State} {n m : LaneNo} :
    leads s n m = true ↔ leadTime s n < leadTime s m ∨ (leadTime s n = leadTime s m ∧ n ≤ m) := decide_eq_true_iff

theorem leadingLane_eq_leastBy (s : State) (l : List LaneNo) : leadingLane s l = leastBy (leads s) l := by
  induction l with
  | nil => rfl
  | cons n rest ih =>
    rw [leadingLane, leastBy, ih]
    cases leastBy (leads s) rest with
    | none => rfl
    | some m => simp only [leads_iff]

theorem leadingLane_eq_some {s : State} {l : List LaneNo} {n : LaneNo} (h : leadingLane s l = some n) :
    n ∈ l ∧ ∀ m, m ∈ l → leads s n m = true := by
  rw [leadingLane_eq_leastBy] at h
  refine leastBy_eq_some (fun a b => ?_) (fun a b c hab hbc => ?_) h
  · simp only [leads_iff]
    grind
  · simp only [leads_iff] at *
    grind

/-- A lane of the list that leads every lane of it is the leading one. -/
theorem leadingLane_unique {s : State} {l : List LaneNo} {n : LaneNo} (hn : n ∈ l)
    (hleads : ∀ m, m ∈ l → leads s n m = true) : leadingLane s l = some n := by
  cases h : leadingLane s l with
  | none =>
    rw [leadingLane_eq_leastBy, leastBy_eq_none] at h
    exact absurd hn (by simp [h])
  | some m =>
    obtain ⟨hm, hfirst⟩ := leadingLane_eq_some h
    have hnm := leads_iff.mp (hleads m hm)
    have hmn := leads_iff.mp (hfirst n hn)
    congr 1
    grind

/-! ### The rank of a request (R56, R58) -/

theorem rankLe_cons {x y : Nat} {a b : List Nat} :
    rankLe (x :: a) (y :: b) = true ↔ x < y ∨ (x = y ∧ rankLe a b = true) := by
  simp [rankLe]

theorem rankLe_total (a b : List Nat) : rankLe a b = true ∨ rankLe b a = true := by
  induction a generalizing b with
  | nil => exact .inl rfl
  | cons x a ih =>
    cases b with
    | nil => exact .inr rfl
    | cons y b =>
      have := ih b
      simp only [rankLe_cons]
      grind

theorem rankLe_trans {a b c : List Nat} (hab : rankLe a b = true) (hbc : rankLe b c = true) : rankLe a c = true := by
  induction a generalizing b c with
  | nil => rfl
  | cons x a ih =>
    cases b with
    | nil => exact nomatch hab
    | cons y b =>
      cases c with
      | nil => exact nomatch hbc
      | cons z c =>
        rw [rankLe_cons] at *
        have hrest : rankLe a b = true → rankLe b c = true → rankLe a c = true := ih
        grind

theorem chooseRequest_eq_leastBy (s : State) (l : List FetchReq) :
    chooseRequest s l = leastBy (fun r q => rankLe (requestRank s r) (requestRank s q)) l := by
  induction l with
  | nil => rfl
  | cons r rest ih =>
    rw [chooseRequest, leastBy, ih]
    cases leastBy (fun r q => rankLe (requestRank s r) (requestRank s q)) rest <;> rfl

theorem chooseRequest_eq_some {s : State} {l : List FetchReq} {r : FetchReq} (h : chooseRequest s l = some r) :
    r ∈ l ∧ ∀ q, q ∈ l → rankLe (requestRank s r) (requestRank s q) = true := by
  rw [chooseRequest_eq_leastBy] at h
  exact leastBy_eq_some (le := fun r q => rankLe (requestRank s r) (requestRank s q)) (fun _ _ => rankLe_total _ _)
    (fun _ _ _ => rankLe_trans) h

theorem mem_writersOf {s : State} {r : FetchReq} {n : LaneNo} :
    n ∈ writersOf s r ↔
      n ∈ r.lanes ∧ ∃ p, p ∈ (s.lane n).pins ∧ p.kind = .write ∧ p.slot = r.slot ∧ p.page = r.page := by
  simp [writersOf, holdsPin, and_assoc]

theorem requestRank_write {s : State} {r : FetchReq} {n : LaneNo} (hn : n ∈ writersOf s r)
    (hleads : ∀ m, m ∈ writersOf s r → leads s n m = true) :
    requestRank s r = [0, leadTime s n, n.val, r.page, r.slot.val] := by
  simp [requestRank, leadingLane_unique hn hleads]

theorem requestRank_verify {s : State} {r : FetchReq} (h : ∀ n, n ∉ writersOf s r) :
    requestRank s r = [1, r.arrival, r.slot.val, r.page, 0] := by
  simp [requestRank, List.eq_nil_iff_forall_not_mem.mpr h, leadingLane]

/-! ### The choice of a frame (R50) -/

theorem firstFrame_eq_some {s : State} {test : Frame → Bool} {f : FrameNo} :
    firstIndex s.frames test = some f ↔ test (s.frame f) = true ∧ ∀ g, g < f → test (s.frame g) = false :=
  firstIndex_eq_some

theorem firstFrame_eq_none {s : State} {test : Frame → Bool} :
    firstIndex s.frames test = none ↔ ∀ g, test (s.frame g) = false :=
  firstIndex_eq_none

theorem mem_frames {s : State} {x : Frame} : x ∈ s.frames.toList ↔ ∃ g, s.frame g = x := by
  simp only [Vector.mem_toList_iff, Vector.mem_iff_getElem, State.frame, Fin.exists_iff, Fin.getElem_fin]

theorem oldestIdle_eq_none {l : List Frame} : oldestIdle l = none ↔ ∀ f, f ∈ l → f.idle = false := by
  induction l with
  | nil => simp [oldestIdle]
  | cons f rest ih =>
    rw [oldestIdle, List.forall_mem_cons, ← ih]
    cases oldestIdle rest <;> cases f.idle <;> simp

theorem oldestIdle_eq_some {l : List Frame} {u : Nat} (h : oldestIdle l = some u) :
    ∀ f, f ∈ l → f.idle = true → u ≤ f.lastUse := by
  induction l generalizing u with
  | nil => simp
  | cons f rest ih =>
    rw [oldestIdle] at h
    rw [List.forall_mem_cons]
    cases hrest : oldestIdle rest with
    | none =>
      have hnone := oldestIdle_eq_none.mp hrest
      rw [hrest] at h
      refine ⟨fun hf => ?_, fun g hg hidle => by simp [hnone g hg] at hidle⟩
      simp only [hf, if_true, Option.some.injEq] at h
      exact Nat.le_of_eq h.symm
    | some w =>
      have hw := ih hrest
      simp only [hrest] at h
      by_cases hf : f.idle = true
      · obtain rfl : min f.lastUse w = u := by simpa [hf] using h
        exact ⟨fun _ => by omega, fun g hg hidle => by have := hw g hg hidle; omega⟩
      · obtain rfl : w = u := by simpa [hf] using h
        exact ⟨fun h => absurd h hf, hw⟩

theorem chooseFrame_free {s : State} {f : FrameNo} (hf : chooseFrame s = some f) (h : ∃ g, (s.frame g).state = .free) :
    (s.frame f).state = .free ∧ ∀ g, g < f → (s.frame g).state ≠ .free := by
  unfold chooseFrame at hf
  split at hf
  · next hfree =>
    obtain rfl := Option.some.inj hf
    simpa using firstFrame_eq_some.mp hfree
  · next hfree =>
    obtain ⟨g, hg⟩ := h
    exact absurd hg (by simpa using firstFrame_eq_none.mp hfree g)

theorem firstFree_eq_none {s : State} (h : ∀ g, (s.frame g).state ≠ .free) :
    firstIndex s.frames (fun f => decide (f.state = .free)) = none :=
  firstFrame_eq_none.mpr fun g => decide_eq_false (h g)

theorem chooseFrame_of_oldest {s : State} {u : Nat} (hfree : ∀ g, (s.frame g).state ≠ .free)
    (hold : oldestIdle s.frames.toList = some u) :
    chooseFrame s = firstIndex s.frames (fun f => f.idle && decide (f.lastUse = u)) := by
  simp only [chooseFrame, firstFree_eq_none hfree, hold]

theorem chooseFrame_of_none_idle {s : State} (hfree : ∀ g, (s.frame g).state ≠ .free)
    (hold : oldestIdle s.frames.toList = none) :
    chooseFrame s = firstIndex s.frames (fun f => decide (f.state = .failed)) := by
  simp only [chooseFrame, firstFree_eq_none hfree, hold]

theorem chooseFrame_idle {s : State} {f : FrameNo} (hf : chooseFrame s = some f) (hfree : ∀ g, (s.frame g).state ≠ .free)
    (hidle : ∃ g, (s.frame g).idle = true) :
    (s.frame f).idle = true ∧ ∀ g, (s.frame g).idle = true →
      (s.frame f).lastUse < (s.frame g).lastUse ∨ ((s.frame f).lastUse = (s.frame g).lastUse ∧ f ≤ g) := by
  cases hold : oldestIdle s.frames.toList with
  | none =>
    obtain ⟨g, hg⟩ := hidle
    have := oldestIdle_eq_none.mp hold _ (mem_frames.mpr ⟨g, rfl⟩)
    simp [hg] at this
  | some u =>
    rw [chooseFrame_of_oldest hfree hold] at hf
    obtain ⟨hat, hbefore⟩ := firstFrame_eq_some.mp hf
    obtain ⟨hfidle, rfl⟩ : (s.frame f).idle = true ∧ (s.frame f).lastUse = u := by simpa using hat
    refine ⟨hfidle, fun g hg => ?_⟩
    have hle := oldestIdle_eq_some hold _ (mem_frames.mpr ⟨g, rfl⟩) hg
    rcases Nat.lt_or_eq_of_le hle with hlt | heq
    · exact .inl hlt
    · refine .inr ⟨heq, Nat.le_of_not_lt fun hgf => ?_⟩
      have hnot : (s.frame g).idle = true → ¬ (s.frame g).lastUse = (s.frame f).lastUse := by simpa using hbefore g hgf
      exact hnot hg heq.symm

theorem chooseFrame_failed {s : State} {f : FrameNo} (hf : chooseFrame s = some f)
    (h : ∀ g, (s.frame g).state ≠ .free ∧ (s.frame g).idle = false) :
    (s.frame f).state = .failed ∧ ∀ g, g < f → (s.frame g).state ≠ .failed := by
  have hold : oldestIdle s.frames.toList = none := by
    refine oldestIdle_eq_none.mpr fun x hx => ?_
    obtain ⟨g, rfl⟩ := mem_frames.mp hx
    exact (h g).2
  rw [chooseFrame_of_none_idle (fun g => (h g).1) hold] at hf
  simpa using firstFrame_eq_some.mp hf

/-! ### Changes of several lanes -/

theorem foldl_updLane_frame {α : Type} (lane : α → LaneNo) (f : α → Lane → Lane) (l : List α) (s : State) :
    ∃ lanes, l.foldl (fun t a => t.updLane (lane a) (f a)) s = { s with lanes := lanes } := by
  induction l generalizing s with
  | nil => exact ⟨_, rfl⟩
  | cons a rest ih =>
    obtain ⟨lanes, h⟩ := ih (s.updLane (lane a) (f a))
    exact ⟨lanes, h⟩

theorem lane_updLane (s : State) (n m : LaneNo) (f : Lane → Lane) :
    (s.updLane m f).lane n = if n = m then f (s.lane n) else s.lane n := by
  by_cases h : n = m
  · subst h
    simp
  · rw [if_neg h, State.lane_updLane_ne _ _ _ _ h]

/-- A change that a second turn does not alter reaches each lane of the list once, however often the list names it. -/
theorem foldl_updLane_lane {f : Lane → Lane} (hf : ∀ l, f (f l) = f l) (l : List LaneNo) (s : State) (n : LaneNo) :
    (l.foldl (fun t m => t.updLane m f) s).lane n = if n ∈ l then f (s.lane n) else s.lane n := by
  induction l generalizing s with
  | nil => rfl
  | cons m rest ih =>
    rw [List.foldl_cons, ih, lane_updLane]
    by_cases hm : n = m
    · simp [hm, hf]
    · simp [hm]

/-! ### The start of a fill (R50, R51) -/

theorem placePins_placePins (j : SlotNo) (page : Nat) (f : FrameNo) (l : Lane) :
    placePins j page f (placePins j page f l) = placePins j page f l := by
  simp only [placePins, List.map_map]
  congr 1
  refine List.map_congr_left fun p _ => ?_
  by_cases h : p.slot = j ∧ p.page = page <;> simp [h]

/-- The frame that a started fill takes. -/
def frameTaken (r : FetchReq) (f : FrameNo) (s : State) : Frame :=
  { s.frame f with
    state := .filling, slot := r.slot, page := r.page, pinCount := r.lanes.length, attempts := 0, released := false }

theorem startFill_frame (r : FetchReq) (k : Fin 8) (f : FrameNo) (s : State) :
    ∃ lanes, startFill r k f s = { s with
      frames := s.frames.set f.val (frameTaken r f s) f.isLt
      lanes := lanes
      fetch := { s.fetch with
        queue := s.fetch.queue.filter fun q => decide (q ≠ r)
        fills := s.fetch.fills.set k.val (some ⟨s.fetch.nextFill, f, imageBase s r.slot + 131072 * r.page,
          sectorsInPage (imageSectors s r.slot) r.page, freshReads (sectorsInPage (imageSectors s r.slot) r.page) s.now⟩) k.isLt
        nextFill := s.fetch.nextFill + 1 } } := by
  obtain ⟨lanes, h⟩ := foldl_updLane_frame id (fun _ => placePins r.slot r.page f) r.lanes (s.setFrame f (frameTaken r f s))
  refine ⟨lanes, ?_⟩
  simp only [id, frameTaken] at h
  simp only [startFill, h]
  rfl

theorem startFill_lane (r : FetchReq) (k : Fin 8) (f : FrameNo) (s : State) (n : LaneNo) :
    (startFill r k f s).lane n = if n ∈ r.lanes then placePins r.slot r.page f (s.lane n) else s.lane n :=
  foldl_updLane_lane (placePins_placePins _ _ _) r.lanes (s.setFrame f (frameTaken r f s)) n

/-! ### What the engine starts (R58) -/

theorem feStart_none {s : State} (h : (∀ k : Fin 8, s.fetch.fills[k] ≠ none) ∨ s.fetch.queue = []) : feStart s = s := by
  unfold feStart
  split
  · next k r f hslot hreq _ =>
    rcases h with hbusy | hempty
    · exact absurd (firstIndex_eq_some.mp hslot).1 (by simpa using hbusy k)
    · simp [hempty, chooseRequest] at hreq
  · rfl

theorem feStart_some {s : State} {k : Fin 8} {r : FetchReq} {f : FrameNo} (hk : s.fetch.fills[k] = none)
    (hbefore : ∀ i : Fin 8, i < k → s.fetch.fills[i] ≠ none) (hr : chooseRequest s s.fetch.queue = some r)
    (hf : chooseFrame s = some f) : feStart s = startFill r k f s := by
  have hslot : freeFillSlot s = some k :=
    firstIndex_eq_some.mpr ⟨by rw [hk]; rfl, fun i hi => Option.isNone_eq_false_iff.mpr
      (Option.isSome_iff_ne_none.mpr (hbefore i hi))⟩
  simp only [feStart, hslot, hr, hf]

theorem feStart_dram (s : State) : (feStart s).dram = s.dram := by
  unfold feStart
  split
  · next k r f _ _ _ =>
    obtain ⟨lanes, h⟩ := startFill_frame r k f s
    rw [h]
  · rfl

/-! ### What the lanes are told (R52, R54) -/

theorem tellReady_dram (p : LanePin) (n : LaneNo) (s : State) : (tellReady p n s).dram = s.dram := by
  unfold tellReady
  cases p.kind with
  | write => rfl
  | compare =>
    dsimp only
    unfold referenceReady
    split
    · split <;> simp
    · rfl
  | diagnostic =>
    dsimp only
    unfold diagReady diagQueue
    split
    · split
      · simp [queueCompare, updVerify]
      · rfl
    · rfl

theorem tellAllReady_dram (who : List (LaneNo × LanePin)) (s : State) : (tellAllReady who s).dram = s.dram := by
  induction who generalizing s with
  | nil => rfl
  | cons x rest ih => exact (ih _).trans (tellReady_dram _ _ _)

theorem tellReady_compare {p : LanePin} {n : LaneNo} {w : UnitNo} {s : State} (hp : p.kind = .compare)
    (hw : (s.lane n).verify.unit = some w) :
    tellReady p n s = if (s.unit w).state = .referenceWait then s.setUnit w { s.unit w with state := .comparing } else s := by
  simp only [tellReady, hp, referenceReady, hw]

theorem tellFailed_write {p : LanePin} (n : LaneNo) (s : State) (hp : p.kind = .write) :
    tellFailed p n s = laneReject n .imageFetch 0 id s := by
  simp only [tellFailed, hp]

theorem tellFailed_diagnostic {p : LanePin} (n : LaneNo) (s : State) (hp : p.kind = .diagnostic) :
    tellFailed p n s = diagEnd n .reference s := by
  simp only [tellFailed, hp, diagFailed]

theorem tellFailed_compare_none {p : LanePin} {n : LaneNo} {s : State} (hp : p.kind = .compare)
    (hw : (s.lane n).verify.unit = none) : tellFailed p n s = s := by
  simp only [tellFailed, hp, referenceFailed, hw]

theorem tellFailed_compare {p : LanePin} {n : LaneNo} {w : UnitNo} {s : State} (hp : p.kind = .compare)
    (hw : (s.lane n).verify.unit = some w) :
    tellFailed p n s = if (s.unit w).state = .referenceWait then verifyStop n .verifyReference
      (freeUnit w (updVerify n (fun v => { v with stage := .off, unit := none }) s)) else s := by
  simp only [tellFailed, hp, referenceFailed, hw]

/-! ### Pins removed with their frame (R54, R59) -/

theorem removePin_lane (n m : LaneNo) (p : LanePin) (s : State) :
    (removePin (m, p) s).lane n =
      { s.lane n with pins := (s.lane n).pins.filter fun q => decide ((n, q) ≠ (m, p)) } := by
  rw [removePin, lane_updLane]
  by_cases h : n = m
  · subst h
    simp only [if_true, ne_eq, Prod.mk.injEq, true_and]
  · have hkept : ((s.lane n).pins.filter fun q => decide ((n, q) ≠ (m, p))) = (s.lane n).pins :=
      List.filter_eq_self.mpr fun q _ => decide_eq_true fun heq => h (congrArg Prod.fst heq)
    rw [if_neg h, hkept]

/-- Each lane keeps the pins that are not among those removed, and everything else. -/
theorem foldl_removePin_lane (who : List (LaneNo × LanePin)) (s : State) (n : LaneNo) :
    (who.foldl (fun t x => removePin x t) s).lane n =
      { s.lane n with pins := (s.lane n).pins.filter fun q => decide ((n, q) ∉ who) } := by
  induction who generalizing s with
  | nil =>
    have hkept : ((s.lane n).pins.filter fun q => decide ((n, q) ∉ ([] : List (LaneNo × LanePin)))) = (s.lane n).pins :=
      List.filter_eq_self.mpr fun _ _ => decide_eq_true List.not_mem_nil
    rw [List.foldl_nil, hkept]
  | cons x rest ih =>
    have hpin : ∀ q, (decide ((n, q) ∉ rest) && decide ((n, q) ≠ x)) = decide ((n, q) ∉ x :: rest) := fun q => by
      rw [← Bool.decide_and]
      exact decide_eq_decide.mpr (by rw [List.mem_cons, not_or, and_comm])
    rw [List.foldl_cons, ih, removePin_lane]
    simp only [List.filter_filter, hpin]

theorem foldl_removePin_frame (who : List (LaneNo × LanePin)) (s : State) :
    ∃ lanes, who.foldl (fun t x => removePin x t) s = { s with lanes := lanes } :=
  foldl_updLane_frame Prod.fst (fun x l => { l with pins := l.pins.filter fun q => decide (q ≠ x.2) }) who s

/-! ### A good completion (R51, R52) -/

theorem fitBytes_getD {n k : Nat} (bs : List Byte) (h : k < n) : (fitBytes n bs).getD k 0 = bs.getD k 0 := by
  simp only [fitBytes, List.getD_eq_getElem?_getD, List.getElem?_take, h, if_true, List.getElem?_append]
  split
  · rfl
  · next hk =>
    rw [List.getElem?_eq_none (Nat.le_of_not_lt hk), List.getElem?_replicate]
    split <;> rfl

theorem read_writeBytes_fit {m : Memory} {n k : Nat} (a : Nat) (bs : List Byte) (hm : Memory.wf m = true) (hk : k < n) :
    Memory.read (Memory.writeBytes m a (fitBytes n bs)) (a + k) = bs.getD k 0 := by
  have hlen : k < (fitBytes n bs).length := by simpa using hk
  rw [Memory.read_writeBytes_inside _ _ _ _ hm hlen, ← fitBytes_getD bs hk, List.getD_eq_getElem?_getD,
    List.getElem?_eq_getElem hlen, Option.getD_some]

theorem sameOutside_writeBytes_fit {m : Memory} (a n : Nat) (bs : List Byte) (hm : Memory.wf m = true) :
    SameOutside a n m (Memory.writeBytes m a (fitBytes n bs)) := fun x hx =>
  Memory.read_writeBytes_outside _ _ _ _ hm (by simpa using hx)

/-- A completion leaves the attempt with every read done where every other read was. -/
theorem all_done_modify_iff {reads : List FillRead} {read : Nat} :
    (reads.modify read fun y => { y with done := true }).all (·.done) = true ↔
      ∀ i y, i ≠ read → reads[i]? = some y → y.done = true := by
  simp only [List.all_eq_true, List.mem_iff_getElem?, List.getElem?_modify]
  constructor
  · intro h i y hi hy
    exact h y ⟨i, by simp [hy, hi.symm]⟩
  · rintro h z ⟨i, hz⟩
    by_cases hi : read = i
    · obtain ⟨y, -, rfl⟩ : ∃ y, reads[i]? = some y ∧ { y with done := true } = z := by simpa [hi] using hz
      rfl
    · exact h i z (Ne.symm hi) (by simpa [hi] using hz)

/-- The state with the bytes of a read of a fill stored in the local DRAM. -/
def storeRead (x : Fill) (read : Nat) (bs : List Byte) (s : State) : State :=
  { s with
    dram := Memory.writeBytes s.dram (131072 * x.frame.val + 4096 * read) (fitBytes (readLength x.sectors read) bs) }

theorem readCompletes_more {slot : Fin 8} {x : Fill} {read i : Nat} {y : FillRead} (bs : List Byte) (s : State)
    (hi : i ≠ read) (hy : x.reads[i]? = some y) (hmore : y.done = false) :
    readCompletes slot x read bs s =
      setFill slot { x with reads := x.reads.modify read fun y => { y with done := true } } (storeRead x read bs s) := by
  refine if_neg fun hall => ?_
  simp [all_done_modify_iff.mp hall i y hi hy] at hmore

theorem readCompletes_last {slot : Fin 8} {x : Fill} {read : Nat} (bs : List Byte) (s : State)
    (hlast : ∀ i y, i ≠ read → x.reads[i]? = some y → y.done = true) :
    readCompletes slot x read bs s =
      fillSucceeds slot { x with reads := x.reads.modify read fun y => { y with done := true } } (storeRead x read bs s) :=
  if_pos (all_done_modify_iff.mpr hlast)

theorem fillSucceeds_dram (slot : Fin 8) (x : Fill) (s : State) : (fillSucceeds slot x s).dram = s.dram := by
  unfold fillSucceeds
  dsimp only
  rw [tellAllReady_dram, feStart_dram]
  split <;> rfl

theorem readCompletes_dram (slot : Fin 8) (x : Fill) (read : Nat) (bs : List Byte) (s : State) :
    (readCompletes slot x read bs s).dram = (storeRead x read bs s).dram := by
  unfold readCompletes
  dsimp only
  split
  · rw [fillSucceeds_dram]
    rfl
  · rfl

/-! ### The ends of the reads -/

theorem liveRead_attempts {fill attempt read : Nat} {s : State} {slot : Fin 8} {x : Fill} {r : FillRead}
    (h : liveRead s fill attempt read = some (slot, x, r)) : (s.frame x.frame).attempts = attempt := by
  unfold liveRead at h
  split at h
  case h_2 => exact nomatch h
  split at h
  case h_2 => exact nomatch h
  split at h
  case h_2 => exact nomatch h
  split at h
  case isFalse => exact nomatch h
  case isTrue hlive =>
    simp only [Option.some.injEq, Prod.mk.injEq] at h
    obtain ⟨-, rfl, -⟩ := h
    exact hlive.1

theorem fillRead_dead {fill attempt read : Nat} {s : State} (result : HostRead) (h : liveRead s fill attempt read = none) :
    fillRead fill attempt read result s = s := by
  simp only [fillRead, h]

theorem fillExpired_dead {fill attempt read : Nat} {s : State} (h : liveRead s fill attempt read = none) :
    fillExpired fill attempt read s = s := by
  simp only [fillExpired, h]

theorem fillRead_data {fill attempt read : Nat} {s : State} {slot : Fin 8} {x : Fill} {r : FillRead} (bs : List Byte)
    (h : liveRead s fill attempt read = some (slot, x, r)) :
    fillRead fill attempt read (.data bs) s = readCompletes slot x read bs s := by
  simp only [fillRead, h]

theorem fillRead_error {fill attempt read : Nat} {s : State} {slot : Fin 8} {x : Fill} {r : FillRead}
    (h : liveRead s fill attempt read = some (slot, x, r)) :
    fillRead fill attempt read .error s = attemptFails slot x .readError s := by
  simp only [fillRead, h]

theorem fillExpired_live {fill attempt read : Nat} {s : State} {slot : Fin 8} {x : Fill} {r : FillRead}
    (h : liveRead s fill attempt read = some (slot, x, r)) :
    fillExpired fill attempt read s = attemptFails slot x .timeout (s.advanceTo (r.issuedAt + 50000)) := by
  simp only [fillExpired, h, fillLimit]

/-- A fill that succeeds: its slot is empty and its frame RESIDENT, or FREE where it was released, before the engine starts a
request and the lanes are told. -/
theorem fillSucceeds_eq (slot : Fin 8) (x : Fill) (s : State) :
    ∃ v, fillSucceeds slot x s = tellAllReady (pinsOn s x.frame) (feStart v) ∧ v.dram = s.dram ∧
      v.fetch = { s.fetch with fills := s.fetch.fills.set slot.val none slot.isLt } ∧
      (∀ g, g ≠ x.frame → v.frame g = s.frame g) ∧
      ((s.frame x.frame).released = false →
        v.frame x.frame = { s.frame x.frame with state := .resident, lastUse := s.port.timeBase } ∧
        v = { s with dram := v.dram, fetch := v.fetch, frames := v.frames }) ∧
      ((s.frame x.frame).released = true → (v.frame x.frame).state = .free ∧
        v = { s with dram := v.dram, fetch := v.fetch, frames := v.frames, lanes := v.lanes }) := by
  have hself : ∀ f, (s.setFrame x.frame f).frame x.frame = f := fun f => State.frame_setFrame_self s x.frame f
  have hothers : ∀ f g, g ≠ x.frame → (s.setFrame x.frame f).frame g = s.frame g := fun f g hg =>
    State.frame_setFrame_ne s x.frame g f hg
  cases hreleased : (s.frame x.frame).released
  · refine ⟨clearFill slot (s.setFrame x.frame { s.frame x.frame with state := .resident, lastUse := s.now }), ?_, rfl, rfl,
      hothers _, fun _ => ⟨hself _, rfl⟩, fun h => nomatch h⟩
    rw [fillSucceeds, hreleased]
    rfl
  · refine ⟨clearFill slot (looseFrame x.frame (s.setFrame x.frame (s.frame x.frame).toFree)), ?_, rfl, rfl,
      hothers _, (fun h => nomatch h), fun _ => ⟨congrArg Frame.state (hself _), rfl⟩⟩
    rw [fillSucceeds, hreleased]
    rfl

/-! ### A failed attempt (R53, R54, R59) -/

theorem attemptFails_released {slot : Fin 8} {x : Fill} {how : FetchFailure} {s : State}
    (h : (s.frame x.frame).released = true) : attemptFails slot x how s = releasedFails slot x s := if_pos h

theorem attemptFails_next {slot : Fin 8} {x : Fill} {how : FetchFailure} {s : State}
    (hkept : (s.frame x.frame).released = false) (hnext : (s.frame x.frame).attempts < 2) :
    attemptFails slot x how s = setFill slot { x with reads := freshReads x.sectors s.port.timeBase }
      (s.setFrame x.frame { s.frame x.frame with attempts := (s.frame x.frame).attempts + 1 }) := by
  simp [attemptFails, hkept, hnext, State.now]

theorem attemptFails_last {slot : Fin 8} {x : Fill} {how : FetchFailure} {s : State}
    (hkept : (s.frame x.frame).released = false) (hlast : 2 ≤ (s.frame x.frame).attempts) :
    attemptFails slot x how s = pageFails slot x how s := by
  simp [attemptFails, hkept, Nat.not_lt.mpr hlast]

/-- A failed read in a live attempt, as the frame's mark and the attempt's number have it. -/
theorem attemptFails_cases {fill attempt read : Nat} {s : State} {slot : Fin 8} {x : Fill} {r : FillRead}
    (h : liveRead s fill attempt read = some (slot, x, r)) (how : FetchFailure) {t : State} (ht : t.frames = s.frames) :
    ((s.frame x.frame).released = true → attemptFails slot x how t = releasedFails slot x t) ∧
    ((s.frame x.frame).released = false → attempt < 2 →
      attemptFails slot x how t = setFill slot { x with reads := freshReads x.sectors t.port.timeBase }
        (t.setFrame x.frame { s.frame x.frame with attempts := attempt + 1 })) ∧
    ((s.frame x.frame).released = false → 2 ≤ attempt → attemptFails slot x how t = pageFails slot x how t) := by
  have hframe : t.frame x.frame = s.frame x.frame := by simp only [State.frame, ht]
  rw [← liveRead_attempts h, ← hframe]
  exact ⟨attemptFails_released, attemptFails_next, attemptFails_last⟩

/-- A released frame that fails goes FREE with no lane's pin on it, before the engine starts a request and the lanes are told. -/
theorem releasedFails_eq (slot : Fin 8) (x : Fill) (s : State) :
    ∃ w : State, releasedFails slot x s = tellAllFailed (pinsOn s x.frame) (feStart { w with
        fetch := { s.fetch with fills := s.fetch.fills.set slot.val none slot.isLt } }) ∧
      w = { s with frames := w.frames, lanes := w.lanes } ∧
      w.frame x.frame = { s.frame x.frame with
        state := .free, slot := 0, page := 0, pinCount := 0, attempts := 0, released := false } ∧
      (∀ f, f ≠ x.frame → w.frame f = s.frame f) ∧
      ∀ n, (w.lane n = { s.lane n with pins := (w.lane n).pins }) ∧
        ∀ q, q ∈ (w.lane n).pins ↔ q ∈ (s.lane n).pins ∧ (n, q) ∉ pinsOn s x.frame := by
  obtain ⟨lanes, hw⟩ := foldl_removePin_frame (pinsOn s x.frame) (s.setFrame x.frame (s.frame x.frame).toFree)
  have hlane := foldl_removePin_lane (pinsOn s x.frame) (s.setFrame x.frame (s.frame x.frame).toFree)
  refine ⟨(pinsOn s x.frame).foldl (fun t p => removePin p t) (s.setFrame x.frame (s.frame x.frame).toFree),
    ?_, by rw [hw]; rfl, ?_, fun f hf => ?_, fun n => ⟨?_, fun q => ?_⟩⟩
  · simp only [releasedFails, clearFill, hw]
    rfl
  · rw [hw]
    exact State.frame_setFrame_self s x.frame _
  · rw [hw]
    exact State.frame_setFrame_ne s x.frame f _ hf
  · rw [hlane]
    rfl
  · rw [hlane]
    simp only [List.mem_filter, decide_eq_true_eq]
    rfl

/-- The unit of a verifying lane goes FREE before its disc is rejected. -/
theorem tellFailed_waiting {p : LanePin} {n : LaneNo} {w : UnitNo} {s : State} (hp : p.kind = .compare)
    (hw : (s.lane n).verify.unit = some w) (hwait : (s.unit w).state = .referenceWait) :
    ∃ v, tellFailed p n s = verifyStop n .verifyReference v ∧
      v.unit w = CompareUnit.reset ∧ (∀ u, u ≠ w → v.unit u = s.unit u) ∧
      v.lane n = { s.lane n with verify := { (s.lane n).verify with stage := .off, unit := none } } ∧
      (∀ m, m ≠ n → v.lane m = s.lane m) ∧
      v = { s with lanes := v.lanes, verify := v.verify, signals := s.signals ++ [.grant] } := by
  have hlane := fun m => lane_updLane s m n fun l => { l with verify := { l.verify with stage := .off, unit := none } }
  exact ⟨_, (tellFailed_compare hp hw).trans (if_pos hwait), State.unit_setUnit_self _ _ _,
    fun u hu => State.unit_setUnit_ne _ _ _ _ hu, (hlane n).trans (if_pos rfl), fun m hm => (hlane m).trans (if_neg hm), rfl⟩

/-! ### FILL_READ_DONE and FILL_READ_TIMEOUT -/

theorem exec_fillReadDone (fill attempt read : Nat) (result : HostRead) (s : State) :
    exec (.fillReadDone fill attempt read result) s = .next (settle (fillRead fill attempt read result s)) := rfl

theorem exec_fillReadTimeout (fill attempt read : Nat) (s : State) :
    exec (.fillReadTimeout fill attempt read) s = .next (settle (fillExpired fill attempt read s)) := rfl

/-- Settles O39, from what each end of a read does and from the choices of the engine. -/
theorem fillReadsTaken : Obligations.FillReadsTaken := by
  unfold Obligations.FillReadsTaken
  refine ⟨fun fill attempt read s => ⟨fun _ => rfl, rfl⟩,
    fun fill attempt read s hwf => ⟨fun result hdead => ?dead, fun slot x r hlive => ⟨fun bs => ?good, fun timed => ?failed⟩⟩,
    fun slot x how s => ⟨rfl, rfl, releasedFails_eq slot x s⟩,
    fun n p rest s => ⟨rfl, rfl, rfl, tellFailed_write n s, tellFailed_diagnostic n s, fun hp =>
      ⟨tellFailed_compare_none hp, fun w hw =>
        ⟨fun hwait => (tellFailed_compare hp hw).trans (if_neg hwait), tellFailed_waiting hp hw⟩⟩⟩,
    fun n p s => ⟨fun hp => by simp only [tellReady, hp], fun hp => by simp only [tellReady, hp],
      fun w hp hw => tellReady_compare hp hw⟩,
    fun n rate s => leadTime_of_rate,
    fun x y a b => ⟨rfl, rankLe_cons⟩,
    fun r s => ⟨fun n hn hfirst => ?write, fun hnone => ?verify⟩,
    fun r k f s => ?started,
    fun s => ⟨feStart_none, fun k r f hk hbefore hr hf => ⟨chooseRequest_eq_some hr, chooseFrame_free hf,
      chooseFrame_idle hf, chooseFrame_failed hf, feStart_some hk hbefore hr hf⟩⟩⟩
  case dead =>
    rw [exec_fillReadDone, exec_fillReadTimeout, fillRead_dead result hdead, fillExpired_dead hdead]
    exact ⟨rfl, rfl⟩
  case good =>
    refine ⟨_, by rw [exec_fillReadDone, fillRead_data bs hlive], ?_, ?_, ?_, ?_⟩
    · rw [readCompletes_dram]
      exact fun k => read_writeBytes_fit _ bs hwf.1
    · rw [readCompletes_dram]
      exact sameOutside_writeBytes_fit _ _ bs hwf.1
    · rintro ⟨i, y, hi, hy, hmore⟩
      rw [readCompletes_more bs s hi hy hmore]
      rfl
    · intro hlast
      rw [readCompletes_last bs s hlast, fillSucceeds_dram]
      exact fillSucceeds_eq _ _ _
  case failed =>
    intro s1 c how
    have hexec : exec c s = .next (settle (attemptFails slot x how s1)) := by
      cases timed
      · exact (exec_fillReadDone _ _ _ _ _).trans (by rw [fillRead_error hlive]; rfl)
      · exact (exec_fillReadTimeout _ _ _ _).trans (by rw [fillExpired_live hlive]; rfl)
    have hframes : s1.frames = s.frames := by cases timed <;> rfl
    obtain ⟨hreleased, hnext, hlast⟩ := attemptFails_cases hlive how hframes
    exact ⟨fun h => by rw [hexec, hreleased h], fun h ha => by rw [hexec, hnext h ha], fun h ha => by rw [hexec, hlast h ha]⟩
  case write => exact requestRank_write (mem_writersOf.mpr hn) fun m hm => leads_iff.mpr (hfirst m (mem_writersOf.mp hm))
  case verify => exact requestRank_verify fun n hn => hnone n (mem_writersOf.mp hn)
  case started =>
    obtain ⟨lanes, h⟩ := startFill_frame r k f s
    refine ⟨?_, fun g hg => ?_, ?_, startFill_lane r k f s, ?_⟩
    · rw [h]
      exact State.frame_setFrame_self s f _
    · rw [h]
      exact State.frame_setFrame_ne s f g _ hg
    · rw [h]
      rfl
    · rw [h]

end Sys2Proof.ImageCache
end

section
/-! The statements on the drive link: a port's frames and its coming UP, FAULT and stray messages, and the lanes' timeouts. First what a
message does at the port and at the lane, then each timeout as its wait is open or not; then each statement from these. -/

namespace Sys2Proof.DriveLink

open Sys2Proof.Machine

/-! ### Writes to one lane and one port -/

theorem setLane_setLane (n : LaneNo) (a b : Lane) (s : State) : (s.setLane n a).setLane n b = s.setLane n b := by
  simp only [State.setLane, Vector.set_set]

theorem setLink_setLink (n : LaneNo) (a b : Link) (s : State) : (s.setLink n a).setLink n b = s.setLink n b := by
  simp only [State.setLink, Vector.set_set]

/-- The lanes and the ports are written apart. -/
theorem setLink_setLane (n m : LaneNo) (l : Lane) (k : Link) (s : State) :
    (s.setLane n l).setLink m k = (s.setLink m k).setLane n l := rfl

/-- A wait changed at a later time base. -/
theorem setWaits_advanceTo (n : LaneNo) (f : Waits → Waits) (t : Nat) (s : State) :
    setWaits n f (s.advanceTo t) = (s.advanceTo t).setLane n { s.lane n with waits := f (s.lane n).waits } := rfl

/-! ### Stray messages (R98, R100) -/

/-- A count that holds at its maximum, as a minimum. -/
theorem satInc_eq_min (max n : Nat) : satInc max n = min max (n + 1) := by
  unfold satInc
  split <;> omega

theorem strayMessage_lane (n : LaneNo) (s : State) :
    (strayMessage n s).lane n = { s.lane n with stray := min 65535 ((s.lane n).stray + 1) } := by
  rw [strayMessage, DiscRoster.writeLane_lane, State.lane_updLane_self, satInc_eq_min, max16]

theorem strayMessage_lane_ne {n m : LaneNo} (s : State) (h : m ≠ n) : (strayMessage n s).lane m = s.lane m := by
  rw [strayMessage, DiscRoster.writeLane_lane, State.lane_updLane_ne _ _ _ _ h]

/-- A stray message is the count and the report of the lane's block, and nothing else. -/
theorem strayMessage_eq_report (n : LaneNo) (s : State) :
    strayMessage n s = report (0x3000 + 128 * n.val) (laneBlock ((strayMessage n s).lane n) (s.link n).up)
      (s.setLane n ((strayMessage n s).lane n)) := by
  have hlane : (strayMessage n s).lane n = (s.updLane n fun l => { l with stray := satInc max16 l.stray }).lane n :=
    DiscRoster.writeLane_lane _ _ _
  calc
    strayMessage n s = report (0x3000 + 128 * n.val)
        (laneBlock ((s.updLane n fun l => { l with stray := satInc max16 l.stray }).lane n) (s.link n).up)
        (s.updLane n fun l => { l with stray := satInc max16 l.stray }) := rfl
    _ = _ := by rw [hlane, State.lane_updLane_self, State.updLane]

/-! ### A message at its port (R95, R98) -/

theorem deliver_down {n : LaneNo} {s : State} (m : DriveMsg) (h : (s.link n).up = false) : deliver n m s = s := by
  simp [deliver, h]

theorem deliver_up {n : LaneNo} {s : State} (m : DriveMsg) (h : (s.link n).up = true) : deliver n m s = takeMessage n m s := by
  simp [deliver, h]

theorem exec_malformedMessage (n : LaneNo) (s : State) : exec (.malformedMessage n) s = .next (deliver n .malformed s) := rfl

theorem exec_fault (n : LaneNo) (code : BitVec 16) (s : State) :
    exec (.fault n code) s = .next (settle (deliver n (.fault code) s)) := rfl

theorem exec_malformedMessage_up {n : LaneNo} {s : State} (h : (s.link n).up = true) :
    exec (.malformedMessage n) s = .next (strayMessage n s) := by
  rw [exec_malformedMessage, deliver_up _ h]
  rfl

theorem exec_fault_up {n : LaneNo} {s : State} (code : BitVec 16) (h : (s.link n).up = true) :
    exec (.fault n code) s = .next (settle (driveFault n code.toNat s)) := by
  rw [exec_fault, deliver_up _ h]
  rfl

/-! ### FAULT by the lane's state (R101) -/

theorem driveFault_probing {n : LaneNo} {s : State} (code : Nat) (h : (s.lane n).state = .probing) :
    driveFault n code s = probeFail n .driveFault code s := by
  simp only [driveFault, h]

theorem driveFault_inLoad {n : LaneNo} {s : State} (code : Nat) (h : (s.lane n).state = .trayLoad) :
    driveFault n code s = faultInLoad n code s := by
  simp only [driveFault, h]

/-- Before the drive writes and after it, a FAULT is the drive's. -/
theorem driveFault_unwritten {n : LaneNo} {s : State} (code : Nat) (h : (s.lane n).state ∈ [.negotiating, .verifying]) :
    driveFault n code s = laneReject n .driveFault code id s := by
  simp only [List.mem_cons, List.not_mem_nil, or_false] at h
  rcases h with h | h <;> simp only [driveFault, h]

/-- While the drive writes, a FAULT is the write's. -/
theorem driveFault_written {n : LaneNo} {s : State} (code : Nat) (h : (s.lane n).state ∈ [.writing, .closing]) :
    driveFault n code s = laneReject n .writeFault code id s := by
  simp only [List.mem_cons, List.not_mem_nil, or_false] at h
  rcases h with h | h <;> simp only [driveFault, h]

theorem driveFault_stray {n : LaneNo} {s : State} (code : Nat)
    (h : (s.lane n).state ∈ [.unknown, .offline, .idle, .loadWait, .unloadWait, .trayUnload, .faulted]) :
    driveFault n code s = strayMessage n s := by
  simp only [List.mem_cons, List.not_mem_nil, or_false] at h
  rcases h with h | h | h | h | h | h | h <;> simp only [driveFault, h]

theorem discPending_eq {n : LaneNo} {s : State} {d : DiscRef} {x : DiscRecord} (hd : (s.lane n).disc = some d)
    (hx : s.disc d.index = some x) : discPending s n = decide (x.outcome = .pending) := by
  simp only [discPending, hd, hx]

theorem faultInLoad_pending {n : LaneNo} {s : State} {d : DiscRef} {x : DiscRecord} (code : Nat) (hd : (s.lane n).disc = some d)
    (hx : s.disc d.index = some x) (h : x.outcome = .pending) :
    faultInLoad n code s = laneReject n .driveFault code id (s.setLane n
      { s.lane n with uncounted := if (s.lane n).inTray then some d.index else none }) := by
  have hpending : discPending s n = true := (discPending_eq hd hx).trans (decide_eq_true h)
  simp only [faultInLoad, hpending, if_true, State.updLane, hd, Option.map_some]

theorem faultInLoad_decided {n : LaneNo} {s : State} {d : DiscRef} {x : DiscRecord} (code : Nat) (hd : (s.lane n).disc = some d)
    (hx : s.disc d.index = some x) (h : x.outcome ≠ .pending) : faultInLoad n code s = s := by
  have hdecided : discPending s n = false := (discPending_eq hd hx).trans (decide_eq_false h)
  simp [faultInLoad, hdecided]

/-- Settles O34, from what a FAULT does in each lane state and from what a stray message does. -/
theorem faultAndStrayTaken : Obligations.FaultAndStrayTaken := by
  unfold Obligations.FaultAndStrayTaken
  refine fun n code s => ⟨fun hdown => ?down, fun hup => ⟨?malformed, ?_⟩⟩
  case down => rw [exec_malformedMessage, exec_fault, deliver_down _ hdown, deliver_down _ hdown]; exact ⟨rfl, rfl⟩
  case malformed =>
    exact ⟨strayMessage n s, exec_malformedMessage_up hup, fun _ => strayMessage_lane n s,
      fun m hm => strayMessage_lane_ne s hm, hup ▸ strayMessage_eq_report n s, rfl⟩
  rw [exec_fault_up code hup]
  refine ⟨fun h => ?probing, fun h => ?unwritten, fun d x h hd hx => ⟨fun hpending => ?pending, fun hdecided => ?decided⟩,
    fun h => ?written, fun h => ?stray⟩
  case probing => rw [driveFault_probing _ h]
  case unwritten => rw [driveFault_unwritten _ h]
  case pending => rw [driveFault_inLoad _ h, faultInLoad_pending _ hd hx hpending]
  case decided => rw [driveFault_inLoad _ h, faultInLoad_decided _ hd hx hdecided]
  case written => rw [driveFault_written _ h]
  case stray => rw [driveFault_stray _ h]

/-! ### The lanes' timeouts, each with its wait open and not (R67 to R78, R102, R111) -/

theorem mediaExpired_open {n : LaneNo} {s : State} {t : Nat} (hst : (s.lane n).state = .probing)
    (hw : (s.lane n).waits.media = some t) :
    mediaExpired n s = probeFail n .driveFault 0 ((s.advanceTo (t + 10000000)).setLane n
      { s.lane n with waits := { (s.lane n).waits with media := none } }) := by
  simp only [mediaExpired, hst, hw, setWaits_advanceTo, mediaLimit]

theorem mediaExpired_shut {n : LaneNo} {s : State} (h : (s.lane n).state ≠ .probing ∨ (s.lane n).waits.media = none) :
    mediaExpired n s = s := by
  rcases h with h | h <;> simp [mediaExpired, h]

theorem speedExpired_open {n : LaneNo} {s : State} {q : SpeedReq} (h : (s.lane n).speedReq = some q) :
    speedExpired n s = refuseSpeed n q (s.advanceTo (q.sentAt + 2000000)) := by
  simp only [speedExpired, h, speedLimit]

theorem speedExpired_shut {n : LaneNo} {s : State} (h : (s.lane n).speedReq = none) : speedExpired n s = s := by
  simp only [speedExpired, h]

theorem openExpired_open {n : LaneNo} {s : State} {t : Nat} (hst : (s.lane n).state = .writing)
    (hw : (s.lane n).waits.openAck = some t) :
    openExpired n s = laneReject n .driveFault 0 id (s.advanceTo (t + 2000000)) := by
  simp only [openExpired, hst, hw, openLimit]

theorem openExpired_shut {n : LaneNo} {s : State} (h : (s.lane n).state ≠ .writing ∨ (s.lane n).waits.openAck = none) :
    openExpired n s = s := by
  rcases h with h | h <;> simp [openExpired, h]

theorem starvationExpired_open {n : LaneNo} {s : State} {t : Nat} (hst : (s.lane n).state = .writing)
    (hw : (s.lane n).waits.starvation = some t) :
    starvationExpired n s = laneReject n .writeStall 0 id (s.advanceTo (t + 30000000)) := by
  simp only [starvationExpired, hst, hw, starvationLimit]

theorem starvationExpired_shut {n : LaneNo} {s : State}
    (h : (s.lane n).state ≠ .writing ∨ (s.lane n).waits.starvation = none) : starvationExpired n s = s := by
  rcases h with h | h <;> simp [starvationExpired, h]

theorem closedExpired_open {n : LaneNo} {s : State} {t : Nat} (hst : (s.lane n).state = .closing)
    (hw : (s.lane n).waits.closed = some t) :
    closedExpired n s = laneReject n .writeFault 0 id (s.advanceTo (t + 180000000)) := by
  simp only [closedExpired, hst, hw, closedLimit]

theorem closedExpired_shut {n : LaneNo} {s : State} (h : (s.lane n).state ≠ .closing ∨ (s.lane n).waits.closed = none) :
    closedExpired n s = s := by
  rcases h with h | h <;> simp [closedExpired, h]

theorem readExpired_open {n : LaneNo} {s : State} {t : Nat} (hst : (s.lane n).state = .verifying)
    (hw : (s.lane n).waits.readBlock = some t) :
    readExpired n s = laneReject n .driveFault 0 id (s.advanceTo (t + 30000000)) := by
  simp only [readExpired, hst, hw, readLimit]

theorem readExpired_shut {n : LaneNo} {s : State}
    (h : (s.lane n).state ≠ .verifying ∨ (s.lane n).waits.readBlock = none) : readExpired n s = s := by
  rcases h with h | h <;> simp [readExpired, h]

theorem trayExpired_open {n : LaneNo} {s : State} {w : TrayWait} (h : (s.lane n).waits.tray = some w) :
    trayExpired n s = trayFailed n w .trayTimeout ((s.advanceTo (w.sentAt + 8000000)).setLane n
      { s.lane n with waits := { (s.lane n).waits with tray := none } }) := by
  simp only [trayExpired, h, endTrayWait, setWaits_advanceTo, trayLimit]

theorem trayExpired_shut {n : LaneNo} {s : State} (h : (s.lane n).waits.tray = none) : trayExpired n s = s := by
  simp only [trayExpired, h]

theorem exec_mediaTimeout (n : LaneNo) (s : State) : exec (.mediaTimeout n) s = .next (settle (mediaExpired n s)) := rfl
theorem exec_speedTimeout (n : LaneNo) (s : State) : exec (.speedTimeout n) s = .next (settle (speedExpired n s)) := rfl
theorem exec_openTimeout (n : LaneNo) (s : State) : exec (.openTimeout n) s = .next (settle (openExpired n s)) := rfl
theorem exec_creditStarvation (n : LaneNo) (s : State) :
    exec (.creditStarvation n) s = .next (settle (starvationExpired n s)) := rfl
theorem exec_closedTimeout (n : LaneNo) (s : State) : exec (.closedTimeout n) s = .next (settle (closedExpired n s)) := rfl
theorem exec_readBlockTimeout (n : LaneNo) (s : State) : exec (.readBlockTimeout n) s = .next (settle (readExpired n s)) := rfl
theorem exec_trayTimeout (n : LaneNo) (s : State) : exec (.trayTimeout n) s = .next (settle (trayExpired n s)) := rfl

/-- Settles O35: each timeout with its wait open, then, where no report waits, each with its wait not open. -/
theorem laneTimeoutsTaken : Obligations.LaneTimeoutsTaken := by
  unfold Obligations.LaneTimeoutsTaken
  intro n s
  rw [exec_mediaTimeout, exec_speedTimeout, exec_openTimeout, exec_creditStarvation, exec_closedTimeout, exec_readBlockTimeout,
    exec_trayTimeout]
  refine ⟨fun t hst hw => by rw [mediaExpired_open hst hw], fun q hq => by rw [speedExpired_open hq],
    fun t hst hw => by rw [openExpired_open hst hw], fun t hst hw => by rw [starvationExpired_open hst hw],
    fun t hst hw => by rw [closedExpired_open hst hw], fun t hst hw => by rw [readExpired_open hst hw],
    fun w hw => by rw [trayExpired_open hw], fun hsettled => ?_⟩
  exact ⟨fun h => by rw [mediaExpired_shut h, settle_nil hsettled], fun h => by rw [speedExpired_shut h, settle_nil hsettled],
    fun h => by rw [openExpired_shut h, settle_nil hsettled], fun h => by rw [starvationExpired_shut h, settle_nil hsettled],
    fun h => by rw [closedExpired_shut h, settle_nil hsettled], fun h => by rw [readExpired_shut h, settle_nil hsettled],
    fun h => by rw [trayExpired_shut h, settle_nil hsettled]⟩

/-! ### A port's frames (R91, R95) -/

theorem exec_linkFrameFailed_up {n : LaneNo} {s : State} (h : (s.link n).up = true) :
    exec (.linkFrameFailed n) s = .next (s.setLink n { s.link n with fails := min 8 ((s.link n).fails + 1) }) :=
  if_pos h

theorem exec_linkFrameFailed_down {n : LaneNo} {s : State} (h : (s.link n).up = false) :
    exec (.linkFrameFailed n) s = .next s := if_neg (by simp [h])

theorem exec_linkFrameGood_up {n : LaneNo} {s : State} (finished : Bool) (h : (s.link n).up = true) (hfails : (s.link n).fails < 8) :
    exec (.linkFrameGood n finished) s = .next (s.setLink n { s.link n with
      fails := 0, outbound := if finished then (s.link n).outbound.tail else (s.link n).outbound }) :=
  if_pos ⟨h, hfails⟩

theorem exec_linkFrameGood_down {n : LaneNo} {s : State} (finished : Bool) (h : (s.link n).up = false) :
    exec (.linkFrameGood n finished) s = .next s := if_neg (by simp [h])

/-! ### A port that becomes UP (R87, R93) -/

theorem exec_linkUp_up {n : LaneNo} {s : State} (h : (s.link n).up = true) : exec (.linkUp n) s = .next s := if_pos h

theorem exec_linkUp_down {n : LaneNo} {s : State} (h : (s.link n).up = false) :
    exec (.linkUp n) s = .next (settle (portUp n s)) := if_neg (by simp [h])

theorem beginRecovery_waiting {n : LaneNo} {s : State} (h : (s.lane n).waits.tray ≠ none) : beginRecovery n s = s :=
  if_pos (.inl (Option.isSome_iff_ne_none.mpr h))

/-- Recovery at a port that is UP: TRAY QUERY goes to the end of the port's messages, and its wait begins. -/
theorem beginRecovery_asks {n : LaneNo} {s : State} (hup : (s.link n).up = true) (h : (s.lane n).waits.tray = none) :
    beginRecovery n s = (s.setLink n { s.link n with outbound := (s.link n).outbound ++ [.tray .query] }).setLane n { s.lane n with
      waits := { (s.lane n).waits with tray := some ⟨.query, .recovery, s.port.timeBase⟩ }, restPending := false } := by
  have hlink : ((s.updLane n fun l => { l with restPending := false }).link n) = s.link n := rfl
  rw [beginRecovery, if_neg (by simp [h, hup]), sendTray, hlink, if_pos hup, sendMsg, hlink, if_pos hup, State.updLane,
    setLink_setLane, setWaits, State.updLane, setLane_setLane, State.lane_setLane_self]
  rfl

theorem portUp_faulted {n : LaneNo} {s : State} (h : (s.lane n).state = .faulted) :
    portUp n s = beginRecovery n (s.setLink n ⟨true, 0, []⟩) := if_pos h

theorem portUp_quiet {n : LaneNo} {s : State} (h : (s.lane n).state ≠ .faulted ∨ (s.lane n).waits.tray ≠ none) :
    portUp n s = s.setLink n ⟨true, 0, []⟩ := by
  by_cases hfaulted : (s.lane n).state = .faulted
  · rw [portUp_faulted hfaulted]
    exact beginRecovery_waiting (h.resolve_left fun hne => hne hfaulted)
  · exact if_neg hfaulted

theorem portUp_recovers {n : LaneNo} {s : State} (hfaulted : (s.lane n).state = .faulted) (h : (s.lane n).waits.tray = none) :
    portUp n s = (s.setLink n ⟨true, 0, [.tray .query]⟩).setLane n { s.lane n with
      waits := { (s.lane n).waits with tray := some ⟨.query, .recovery, s.port.timeBase⟩ }, restPending := false } := by
  have hlink : (s.setLink n ⟨true, 0, []⟩).link n = ⟨true, 0, []⟩ := State.link_setLink_self _ _ _
  have hasks := beginRecovery_asks (s := s.setLink n ⟨true, 0, []⟩) (by rw [hlink]) h
  rw [portUp_faulted hfaulted, hasks, hlink, setLink_setLink]
  rfl

/-- Settles O26, from what a frame does at a port UP and DOWN, and from what a port that becomes UP sends. -/
theorem linkFramesAndUpTaken : Obligations.LinkFramesAndUpTaken := by
  unfold Obligations.LinkFramesAndUpTaken
  refine ⟨fun n finished s => ⟨fun hup => ⟨exec_linkFrameFailed_up hup, exec_linkFrameGood_up finished hup⟩,
      fun hdown => ⟨exec_linkFrameFailed_down hdown, exec_linkFrameGood_down finished hdown⟩⟩,
    fun n s hsettled => ⟨exec_linkUp_up, fun hdown => ⟨fun h => ?quiet, fun hfaulted h => ?recovers⟩⟩⟩
  case quiet =>
    rw [exec_linkUp_down hdown, portUp_quiet h]
    exact congrArg _ (settle_nil hsettled)
  case recovers =>
    rw [exec_linkUp_down hdown, portUp_recovers hfaulted h]
    exact congrArg _ (settle_nil hsettled)

end Sys2Proof.DriveLink
end

section
/-! The statements on verification: RDATA with the decisions on a disc, and the ends of the compares with their grants. First what each
shared operation does and what it leaves (a lane's pins given up, an early end, a disc decided REJECTED); then each statement from
these. -/

namespace Sys2Proof.Verification

open Sys2Proof.Machine

/-! ### Writes to one lane and one job -/

theorem setLane_lane (n : LaneNo) (s : State) : s.setLane n (s.lane n) = s := by
  simp only [State.setLane, State.lane, Fin.getElem_fin, Vector.set_getElem_self]

theorem updLane_id {n : LaneNo} {f : Lane → Lane} {s : State} (h : f (s.lane n) = s.lane n) : s.updLane n f = s := by
  rw [State.updLane, h, setLane_lane]

theorem updLane_updLane (n : LaneNo) (f g : Lane → Lane) (s : State) :
    (s.updLane n f).updLane n g = s.updLane n fun l => g (f l) := by
  rw [State.updLane, State.lane_updLane_self, State.updLane, DriveLink.setLane_setLane, State.updLane]

theorem updLane_setLink (n m : LaneNo) (f : Lane → Lane) (k : Link) (s : State) :
    (s.updLane n f).setLink m k = (s.setLink m k).updLane n f := rfl

/-- A change of a lane just written, where frames and fetches changed besides. -/
theorem updLane_of_setLane {n : LaneNo} {l : Lane} {fr : Vector Frame 4096} {fe : Fetch} {s t : State}
    (h : t = { s.setLane n l with frames := fr, fetch := fe }) (f : Lane → Lane) :
    t.updLane n f = { s.setLane n (f l) with frames := fr, fetch := fe } := by
  have hlane : t.lane n = l := by rw [h]; exact State.lane_setLane_self s n l
  rw [State.updLane, hlane, h]
  exact congrArg (fun u : State => { u with frames := fr, fetch := fe }) (DriveLink.setLane_setLane n l (f l) s)

theorem lane_emit (g : Signal) (s : State) (m : LaneNo) : (s.emit g).lane m = s.lane m := rfl

theorem unit_of_verify {s t : State} (h : s.verify = t.verify) (u : UnitNo) : s.unit u = t.unit u := by
  simp only [State.unit, h]

theorem setJob_job (j : SlotNo) (s : State) : s.setJob j (s.job j) = s := by
  simp only [State.setJob, State.job, Fin.getElem_fin, Vector.set_getElem_self]

/-! ### Pins given up (R48) -/

theorem mem_insertBy {α : Type} (before : α → α → Bool) (x y : α) (l : List α) :
    y ∈ insertBy before x l ↔ y = x ∨ y ∈ l := by
  induction l with
  | nil => simp [insertBy]
  | cons z rest ih =>
    unfold insertBy
    split
    · rw [List.mem_cons, ih, List.mem_cons, or_left_comm]
    · exact List.mem_cons

theorem mem_sortBy {α : Type} (before : α → α → Bool) (y : α) (l : List α) : y ∈ sortBy before l ↔ y ∈ l := by
  induction l with
  | nil => rfl
  | cons x rest ih => rw [sortBy, mem_insertBy, ih, List.mem_cons]

theorem mem_pinsOf {l : Lane} {kind : PinKind} {p : LanePin} : p ∈ pinsOf l kind ↔ p ∈ l.pins ∧ p.kind = kind := by
  simp [pinsOf, mem_sortBy]

/-- A lane with the pins that pass a test, and no other. -/
def keepPins (test : LanePin → Bool) (l : Lane) : Lane := { l with pins := l.pins.filter test }

theorem mem_keepPins {test : LanePin → Bool} {l : Lane} {p : LanePin} :
    p ∈ (keepPins test l).pins ↔ p ∈ l.pins ∧ test p = true := List.mem_filter

theorem keepPins_keepPins (test test' : LanePin → Bool) (l : Lane) :
    keepPins test (keepPins test' l) = keepPins (fun p => test p && test' p) l := by
  simp only [keepPins, List.filter_filter]

theorem keepPins_congr {test test' : LanePin → Bool} {l : Lane} (h : ∀ p, p ∈ l.pins → test p = test' p) :
    keepPins test l = keepPins test' l := by
  simp only [keepPins, List.filter_congr h]

theorem keepPins_all {test : LanePin → Bool} {l : Lane} (h : ∀ p, test p = true) : keepPins test l = l := by
  simp only [keepPins, List.filter_eq_self.mpr fun p _ => h p]

theorem dropPin_frame (n : LaneNo) (p : LanePin) (s : State) :
    ∃ fr fe, dropPin n p s = { s.updLane n (keepPins fun q => decide (q ≠ p)) with frames := fr, fetch := fe } := by
  unfold dropPin
  cases p.frame <;> exact ⟨_, _, rfl⟩

theorem foldl_dropPin_frame (n : LaneNo) (ps : List LanePin) (s : State) :
    ∃ fr fe, ps.foldl (fun t p => dropPin n p t) s =
      { s.updLane n (keepPins fun q => decide (q ∉ ps)) with frames := fr, fetch := fe } := by
  induction ps generalizing s with
  | nil => exact ⟨s.frames, s.fetch, (updLane_id (keepPins_all fun _ => decide_eq_true List.not_mem_nil)).symm⟩
  | cons p rest ih =>
    obtain ⟨fr, fe, hdrop⟩ := dropPin_frame n p s
    obtain ⟨fr', fe', hrest⟩ := ih (dropPin n p s)
    have hpins : ∀ l, keepPins (fun q => decide (q ∉ rest)) (keepPins (fun q => decide (q ≠ p)) l) =
        keepPins (fun q => decide (q ∉ p :: rest)) l := fun l => by
      rw [keepPins_keepPins]
      exact keepPins_congr fun q _ => by simp [Bool.and_comm]
    have hupd := updLane_updLane n (keepPins fun q => decide (q ≠ p)) (keepPins fun q => decide (q ∉ rest)) s
    simp only [hpins] at hupd
    refine ⟨fr', fe', ?_⟩
    rw [List.foldl_cons, hrest, ← hupd, hdrop]
    rfl

/-- The pins of one kind given up: the lane keeps its other pins; frames and waiting requests change besides. -/
theorem unpinKind_frame (n : LaneNo) (kind : PinKind) (s : State) :
    ∃ fr fe, unpinKind n kind s =
      { s.setLane n (keepPins (fun q => decide (q.kind ≠ kind)) (s.lane n)) with frames := fr, fetch := fe } := by
  obtain ⟨fr, fe, heq⟩ := foldl_dropPin_frame n (pinsOf (s.lane n) kind) s
  have hkind : keepPins (fun q => decide (q ∉ pinsOf (s.lane n) kind)) (s.lane n) =
      keepPins (fun q => decide (q.kind ≠ kind)) (s.lane n) :=
    keepPins_congr fun q hq => decide_eq_decide.mpr (by simp [mem_pinsOf, hq])
  refine ⟨fr, fe, ?_⟩
  rw [unpinKind, heq, State.updLane, hkind]

/-! ### A disc decided REJECTED (R8, R14) -/

theorem changeJob_frame (j : SlotNo) (f : Job → Job) (s : State) :
    ∃ p h, changeJob j f s = { s.setJob j (f (s.job j)) with port := p, host := h } := by
  unfold changeJob
  dsimp only
  split
  · exact ⟨_, _, rfl⟩
  · exact DiscRoster.report_frame _ _ _

/-- The test of a job's counts leaves the counts: of the job its state, its hold reason and its stall flags may change. -/
theorem testCounts_frame (j : SlotNo) (s : State) :
    ∃ w p fr h g, testCounts j s = { s.setJob j w with port := p, frames := fr, host := h, signals := g } ∧
      w.rejected = (s.job j).rejected ∧ w.inFlight = (s.job j).inFlight := by
  unfold testCounts
  dsimp only
  split
  · refine ⟨s.job j, s.port, s.frames, s.host, s.signals ++ [Signal.stalls], ?_, rfl, rfl⟩
    rw [setJob_job]
    rfl
  · split
    · obtain ⟨p, h, heq⟩ := changeJob_frame j (fun x => { x with state := .running }) s
      rw [heq]
      exact ⟨_, _, _, _, _, rfl, rfl, rfl⟩
    · obtain ⟨p, h, heq⟩ := changeJob_frame j (fun x => { x.leaveRunning .done with hold := none }) s
      rw [heq, logEntry_rest]
      exact ⟨_, _, _, _, _, rfl, rfl, rfl⟩
    · obtain ⟨p, h, heq⟩ := changeJob_frame j (Job.leaveRunning .aborted) s
      rw [heq, releaseFrames, logEntry_rest]
      exact ⟨_, _, _, _, _, rfl, rfl, rfl⟩
    · obtain ⟨p, h, heq⟩ := changeJob_frame j (Job.leaveRunning (s.job j).byCounts) s
      rw [heq]
      exact ⟨_, _, _, _, _, rfl, rfl, rfl⟩

theorem countLaneReject_frame (i : DiscNo) (r : DiscRecord) (s : State) :
    ∃ lanes, countLaneReject i r s = { s with lanes := lanes } := by
  unfold countLaneReject
  split
  · split <;> exact ⟨_, rfl⟩
  · exact ⟨_, rfl⟩

/-- Of a lane the report of a rejection changes a counter at most (R81). -/
theorem countLaneReject_lane (i : DiscNo) (r : DiscRecord) (s : State) (m : LaneNo) :
    ∃ c, (countLaneReject i r s).lane m = { s.lane m with counters := c } := by
  unfold countLaneReject
  split
  · next n _ =>
    split
    · rw [ImageCache.lane_updLane]
      split <;> exact ⟨_, rfl⟩
    · exact ⟨_, rfl⟩
  · exact ⟨_, rfl⟩

/-- What the decision REJECTED of a disc of a job leaves: its record, the job's two counts, and of a lane a counter at most. -/
structure Decided (d : DiscRef) (y : DiscRecord) (s v : State) : Prop where
  record : v.disc d.index = some y
  records : ∀ i, i ≠ d.index → v.disc i = s.disc i
  rejected : (v.job d.slot).rejected = satInc max32 (s.job d.slot).rejected
  inFlight : (v.job d.slot).inFlight = (s.job d.slot).inFlight - 1
  lane : ∀ m, ∃ c, v.lane m = { s.lane m with counters := c }
  links : v.links = s.links

/-- A PENDING disc of a job decided REJECTED: the record, the lane's counter, the job's counts, the entry, and the test of the counts. -/
theorem decideRejected_pending {d : DiscRef} {x : DiscRecord} {s : State} (why : RejectReason) (code : Nat)
    (f : DiscRecord → DiscRecord) (hx : s.disc d.index = some x) (hpending : x.outcome = .pending)
    (hslot : x.slot = BitVec.ofNat 8 d.slot.val) :
    decideRejected d.index why code f s = testCounts d.slot (logEntry .discRejected d.index.val (byte why.code ++ half code)
      (changeJob d.slot Job.countReject (countLaneReject d.index x
        (updDisc d.index (fun x => { f x with outcome := .rejected, reason := some why }) s)))) := by
  have hrecord : recordSlot x = some d.slot := DiscRoster.toIndex_val (by
    rw [hslot, BitVec.toNat_ofNat]
    exact Nat.mod_eq_of_lt (by omega))
  simp only [decideRejected, hx, hpending, true_or, if_true, hrecord]

theorem decideRejected_decided {d : DiscRef} {x : DiscRecord} {s : State} (why : RejectReason) (code : Nat)
    (f : DiscRecord → DiscRecord) (hx : s.disc d.index = some x) (hpending : x.outcome = .pending)
    (hslot : x.slot = BitVec.ofNat 8 d.slot.val) :
    Decided d { f x with outcome := .rejected, reason := some why } s (decideRejected d.index why code f s) := by
  rw [decideRejected_pending why code f hx hpending hslot]
  generalize hf : (fun x => { f x with outcome := .rejected, reason := some why } : DiscRecord → DiscRecord) = f'
  obtain ⟨p, r, h, hupd⟩ := DiscRoster.updDisc_frame d.index f' s
  obtain ⟨lanes, hcount⟩ := countLaneReject_frame d.index x (updDisc d.index f' s)
  obtain ⟨p', h', hjob⟩ := changeJob_frame d.slot Job.countReject (countLaneReject d.index x (updDisc d.index f' s))
  generalize hlog : logEntry .discRejected d.index.val (byte why.code ++ half code)
    (changeJob d.slot Job.countReject (countLaneReject d.index x (updDisc d.index f' s))) = t
  rw [logEntry_rest] at hlog
  obtain ⟨w, p'', fr, h'', g, htest, hrejected, hflight⟩ := testCounts_frame d.slot t
  have hcounts : t.job d.slot = Job.countReject (s.job d.slot) := by
    rw [← hlog, hjob, hcount, hupd]
    exact State.job_setJob_self _ _ _
  have hdecided : (testCounts d.slot t).job d.slot = w := by
    rw [htest]
    exact State.job_setJob_self _ _ _
  have hroster : (testCounts d.slot t).roster = (updDisc d.index f' s).roster := by
    rw [htest, ← hlog, hjob, hcount]
    rfl
  have hlanes : (testCounts d.slot t).lanes = (countLaneReject d.index x (updDisc d.index f' s)).lanes := by
    rw [htest, ← hlog, hjob]
    rfl
  refine ⟨?_, fun i hi => ?_, ?_, ?_, fun m => ?_, ?_⟩
  · rw [State.disc_of_roster _ _ hroster, DiscRoster.updDisc_disc f' hx, ← hf]
  · rw [State.disc_of_roster _ _ hroster, DiscRoster.updDisc_disc_ne f' s hi]
  · rw [hdecided, hrejected, hcounts]
    rfl
  · rw [hdecided, hflight, hcounts]
    rfl
  · obtain ⟨c, hc⟩ := countLaneReject_lane d.index x (updDisc d.index f' s) m
    refine ⟨c, ?_⟩
    rw [State.lane_of_lanes _ _ hlanes, hc, State.lane_of_lanes _ _ (DiscRoster.updDisc_lanes _ _ _)]
  · rw [htest, ← hlog, hjob, hcount, hupd]
    rfl

/-! ### The early end of a disc being verified (R79, R120) -/

theorem sendMsg_up {n : LaneNo} {s : State} (m : LaneMsg) (h : (s.link n).up = true) :
    sendMsg n m s = s.setLink n { s.link n with outbound := (s.link n).outbound ++ [m] } := if_pos h

theorem giveBack_off {n : LaneNo} {s : State} (h : (s.lane n).verify.stage = .off) : giveBack n s = s := by
  simp only [giveBack, h]

/-- A lane in VERIFYING with nothing of VE ends its disc early: write pins given up, waits but a tray command's ended, ABORT sent. -/
theorem endEarly_verifying {n : LaneNo} {s : State} (hup : (s.link n).up = true) (hstate : (s.lane n).state = .verifying)
    (hstage : (s.lane n).verify.stage = .off) (hunit : (s.lane n).verify.unit = none) :
    ∃ fr fe, endEarly n s =
      { (s.setLink n { s.link n with outbound := (s.link n).outbound ++ [.abort] }).setLane n
          { keepPins (fun q => decide (q.kind ≠ .write)) (s.lane n) with
            speedReq := none, credits := 0, waits := { Waits.none with tray := (s.lane n).waits.tray }, fifo := [] } with
        frames := fr, fetch := fe } := by
  obtain ⟨fr, fe, hunpin⟩ := unpinKind_frame n .write s
  refine ⟨fr, fe, ?_⟩
  have hlane : (unpinKind n .write s).lane n = keepPins (fun q => decide (q.kind ≠ .write)) (s.lane n) := by
    rw [hunpin]
    exact State.lane_setLane_self s n _
  have hlink : ∀ F, ((unpinKind n .write s).updLane n F).link n = s.link n := fun F => by
    rw [hunpin]
    rfl
  have hback : giveBack n (unpinKind n .write s) = unpinKind n .write s := giveBack_off (by rw [hlane]; exact hstage)
  have hheld : holdsDiscarded (unpinKind n .write s) n = false := by
    have hnone : ((unpinKind n .write s).lane n).verify.unit = none := by rw [hlane]; exact hunit
    simp only [holdsDiscarded, hnone]
  have habort : abortStates.contains (s.lane n).state = true := by rw [hstate]; rfl
  simp only [endEarly, hback, hheld, habort, if_true]
  rw [sendMsg_up _ (by rw [hlink]; exact hup), hlink, updLane_of_setLane hunpin]
  rfl

/-! ### The decisions on a verified disc (R35, R118, R119) -/

/-- What a stop of verification sets in the record: the write totals of a disc whose writing has not ended, the verify counts and the
verify end. -/
theorem verifyFields_rejectFields {l : Lane} (time : Nat) (x : DiscRecord) (h : l.state = .verifying) :
    verifyFields l time (rejectFields l x) = { x with
      verify := some ⟨l.verify.hard, l.verify.miscompare, l.verify.soft⟩
      verifyEnd := some (x.verifyEnd.getD time)
      totals := if x.writeStart.isSome ∧ x.writeEnd = none then some (laneTotals l) else x.totals } := by
  simp only [verifyFields, rejectFields, h, if_true, laneCounts, stampOnce, Option.isNone_iff_eq_none]
  split <;> rfl

/-- Verification of a disc in its tray stops: the early end, the decision REJECTED, and the request for the unload. -/
theorem verifyStop_inTray {n : LaneNo} {d : DiscRef} {why : RejectReason} {s : State} (hd : (s.lane n).disc = some d)
    (hstate : (s.lane n).state = .verifying) (htray : (s.lane n).inTray = true) (hwhy : why ≠ .writeFault) :
    verifyStop n why s = requestUnload n (decideRejected d.index why 0
      (fun x => verifyFields (s.lane n) s.now (rejectFields (s.lane n) x)) (endEarly n s)) := by
  simp only [verifyStop, laneReject, rejectHeld, hd, htray, hstate, if_neg hwhy, if_true, reduceCtorEq, if_false]

/-- What a stop of verification leaves of a disc in its lane's tray as the unload is asked for: the record, the job's two counts, the lane
with an empty FIFO and no READ awaited, and ABORT sent. -/
structure Stopped (n : LaneNo) (d : DiscRef) (y : DiscRecord) (s v : State) : Prop where
  record : v.disc d.index = some y
  records : ∀ i, i ≠ d.index → v.disc i = s.disc i
  rejected : (v.job d.slot).rejected = satInc max32 (s.job d.slot).rejected
  inFlight : (v.job d.slot).inFlight = (s.job d.slot).inFlight - 1
  held : (v.lane n).disc = some d
  fifo : (v.lane n).fifo = []
  wait : (v.lane n).waits.readBlock = none
  link : v.link n = { s.link n with outbound := (s.link n).outbound ++ [.abort] }

theorem verifyStop_stopped {n : LaneNo} {d : DiscRef} {x : DiscRecord} {why : RejectReason} {s : State}
    (hup : (s.link n).up = true) (hd : (s.lane n).disc = some d) (hx : s.disc d.index = some x)
    (hstate : (s.lane n).state = .verifying) (htray : (s.lane n).inTray = true) (hpending : x.outcome = .pending)
    (hslot : x.slot = BitVec.ofNat 8 d.slot.val) (hstage : (s.lane n).verify.stage = .off)
    (hunit : (s.lane n).verify.unit = none) (hwhy : why ≠ .writeFault) :
    ∃ v, verifyStop n why s = requestUnload n v ∧ Stopped n d { x with
      outcome := .rejected, reason := some why
      verify := some ⟨(s.lane n).verify.hard, (s.lane n).verify.miscompare, (s.lane n).verify.soft⟩
      verifyEnd := some (x.verifyEnd.getD s.port.timeBase)
      totals := if x.writeStart.isSome ∧ x.writeEnd = none then some (laneTotals (s.lane n)) else x.totals } s v := by
  obtain ⟨fr, fe, hend⟩ := endEarly_verifying hup hstate hstage hunit
  have hdiscs : ∀ i, (endEarly n s).disc i = s.disc i := State.disc_of_roster _ _ (by rw [hend]; rfl)
  have hjobs : ∀ j, (endEarly n s).job j = s.job j := State.job_of_jobs _ _ (by rw [hend]; rfl)
  have hended : (endEarly n s).lane n = { keepPins (fun q => decide (q.kind ≠ .write)) (s.lane n) with
      speedReq := none, credits := 0, waits := { Waits.none with tray := (s.lane n).waits.tray }, fifo := [] } := by
    rw [hend]
    exact State.lane_setLane_self _ _ _
  have hv := decideRejected_decided why 0 (fun x => verifyFields (s.lane n) s.now (rejectFields (s.lane n) x))
    ((hdiscs d.index).trans hx) hpending hslot
  rw [verifyFields_rejectFields _ _ hstate] at hv
  obtain ⟨c, hlane⟩ := hv.lane n
  rw [hended] at hlane
  refine ⟨_, verifyStop_inTray hd hstate htray hwhy, hv.record, fun i hi => (hv.records i hi).trans (hdiscs i), ?_, ?_, ?_, ?_, ?_, ?_⟩
  · rw [hv.rejected, hjobs]
  · rw [hv.inFlight, hjobs]
  · rw [hlane]
    exact hd
  · rw [hlane]
  · rw [hlane]
    rfl
  · rw [State.link_of_links _ _ hv.links, hend]
    exact State.link_setLink_self _ _ _

theorem verifyPass_disc {n : LaneNo} {d : DiscRef} {s : State} (hd : (s.lane n).disc = some d) :
    verifyPass n s = requestUnload n (updDisc d.index
      (fun x => { verifyFields (s.lane n) s.now x with outcome := .passed }) s) := by
  simp only [verifyPass, hd]

/-! ### Blocks (R109) -/

theorem nextBlock_last {n : LaneNo} {sectors : Nat} {s : State} (h : sectors ≤ (s.lane n).verify.blockStart + 32) :
    nextBlock n sectors s = verifyPass n s := if_neg (Nat.not_lt.mpr h)

/-- The next block's READ goes to the end of the port's messages, and its wait begins. -/
theorem nextBlock_more {n : LaneNo} {sectors : Nat} {s : State} (hup : (s.link n).up = true)
    (h : (s.lane n).verify.blockStart + 32 < sectors) :
    let start := (s.lane n).verify.blockStart + 32
    let count := min 32 (sectors - start)
    nextBlock n sectors s = (s.setLink n { s.link n with outbound := (s.link n).outbound ++ [.read start count] }).setLane n
      { s.lane n with
        fifo := [], waits := { (s.lane n).waits with readBlock := some s.port.timeBase }
        verify := { (s.lane n).verify with blockStart := start, blockCount := count, received := [] } } := by
  intro start count
  have hlink : ∀ F, (s.updLane n F).link n = s.link n := fun _ => rfl
  have hnext : nextBlock n sectors s = startBlock n sectors start s := if_pos h
  rw [hnext, startBlock, sendMsg_up _ (by rw [hlink]; exact hup), hlink, setWaits, updLane_setLink, updLane_updLane]
  rfl

theorem blockRead_readability {n : LaneNo} {r : JobRecord} (d : DiscRef) {s : State} (h : r.verifyMode ≠ .compare) :
    blockRead n r d s = nextBlock n r.imageSectors (s.setLane n { s.lane n with
      waits := { (s.lane n).waits with readBlock := none } }) := if_neg h

theorem discSerial_eq_bind (s : State) (i : DiscNo) : discSerial s i = (s.disc i).bind (·.serial) := by
  unfold discSerial
  cases s.disc i <;> rfl

/-- A block read of a disc to be compared: the lane's request goes to the end of the compare queue. -/
theorem blockRead_compare {n : LaneNo} {r : JobRecord} (d : DiscRef) {s : State} (h : r.verifyMode = .compare) :
    blockRead n r d s = ({ s with
      verify := { s.verify with
        queue := s.verify.queue ++ [⟨n, .disc, (s.lane n).verify.blockStart, (s.lane n).verify.blockCount, d.slot,
          (s.disc d.index).bind (·.serial), s.verify.arrivals⟩]
        arrivals := satInc max64 s.verify.arrivals }
      signals := s.signals ++ [.grant] } : State).setLane n { s.lane n with
        waits := { (s.lane n).waits with readBlock := none }, verify := { (s.lane n).verify with stage := .queued } } := by
  have hupd := updLane_updLane n (fun l => { l with waits := { l.waits with readBlock := none } })
    (fun l => { l with verify := { l.verify with stage := .queued } }) s
  rw [blockRead, if_pos h, discSerial_eq_bind]
  exact congrArg (fun t : State => ({ t with
    verify := { s.verify with
      queue := s.verify.queue ++ [⟨n, .disc, (s.lane n).verify.blockStart, (s.lane n).verify.blockCount, d.slot,
        (s.disc d.index).bind (·.serial), s.verify.arrivals⟩]
      arrivals := satInc max64 s.verify.arrivals }
    signals := s.signals ++ [.grant] } : State)) hupd

/-! ### RDATA (R110) -/

theorem exec_rdata_up {n : LaneNo} {s : State} {bs : List Byte} (sector : BitVec 32) (status : SectorStatus)
    (hup : (s.link n).up = true) (hlen : bs.length = 2048) :
    exec (.rdata n sector status bs) s = .next (settle (driveRdata n sector.toNat status bs s)) := by
  change Host.Outcome.next (settle (deliver n (.rdata sector status bs) s)) = _
  have hformed : messageFormed (.rdata sector status bs) = true := decide_eq_true hlen
  rw [DriveLink.deliver_up _ hup, takeMessage, if_pos hformed, takeFormed]

theorem awaits_iff {l : Lane} {sector : Nat} :
    awaits l sector = true ↔ l.state = .verifying ∧ l.waits.readBlock ≠ none ∧ l.verify.blockStart ≤ sector ∧
      sector < l.verify.blockStart + l.verify.blockCount ∧ sector ∉ l.verify.received := by
  simp [awaits, Option.isSome_iff_ne_none, and_assoc]

theorem driveRdata_stray {n : LaneNo} {sector : Nat} {s : State} (status : SectorStatus) (bs : List Byte)
    (h : ¬ awaits (s.lane n) sector = true) : driveRdata n sector status bs s = strayMessage n s := if_neg h

/-- The state with a sector of the outstanding block received, and the soft and hard errors counted so far. -/
def received (n : LaneNo) (sector : Nat) (bs : List Byte) (soft hard : Nat) (s : State) : State :=
  s.setLane n { s.lane n with
    fifo := (s.lane n).fifo ++ [⟨sector, bs⟩]
    verify := { (s.lane n).verify with
      received := (s.lane n).verify.received ++ [sector], soft := soft, hard := hard } }

theorem fitBytes_of_length {k : Nat} {bs : List Byte} (h : bs.length = k) : fitBytes k bs = bs := by
  rw [fitBytes, List.take_left' h]

/-- A sector that did not stop verification ends its block where it is the last to be received. -/
theorem sectorStands_received (n : LaneNo) (r : JobRecord) (d : DiscRef) (sector : Nat) (bs : List Byte) (soft hard : Nat)
    (s : State) :
    sectorStands n r d (received n sector bs soft hard s) =
      if (s.lane n).verify.received.length + 1 = (s.lane n).verify.blockCount then
        blockRead n r d (received n sector bs soft hard s)
      else received n sector bs soft hard s := by
  have hlane : (received n sector bs soft hard s).lane n = { s.lane n with
      fifo := (s.lane n).fifo ++ [⟨sector, bs⟩]
      verify := { (s.lane n).verify with
        received := (s.lane n).verify.received ++ [sector], soft := soft, hard := hard } } := State.lane_setLane_self _ _ _
  rw [sectorStands, hlane]
  simp only [List.length_append, List.length_singleton]

section
variable {n : LaneNo} {sector : Nat} {bs : List Byte} {d : DiscRef} {r : JobRecord} {s : State}

theorem driveRdata_ok (h : awaits (s.lane n) sector = true) (hd : (s.lane n).disc = some d) (hr : laneRecord s n = some r)
    (hlen : bs.length = 2048) :
    driveRdata n sector .ok bs s =
      sectorStands n r d (received n sector bs (s.lane n).verify.soft (s.lane n).verify.hard s) := by
  simp only [driveRdata, h, if_true, hd, hr, fitBytes_of_length hlen]
  rfl

theorem driveRdata_recovered (h : awaits (s.lane n) sector = true) (hd : (s.lane n).disc = some d)
    (hr : laneRecord s n = some r) (hlen : bs.length = 2048) :
    let t := received n sector bs (satInc max16 (s.lane n).verify.soft) (s.lane n).verify.hard s
    driveRdata n sector .recovered bs s =
      if r.tolerate.getLsbD 2 then sectorStands n r d t else verifyStop n .verifySoft t := by
  simp only [driveRdata, h, if_true, hd, hr, fitBytes_of_length hlen, updVerify, updLane_updLane]
  rfl

theorem driveRdata_unreadable (h : awaits (s.lane n) sector = true) (hd : (s.lane n).disc = some d)
    (hr : laneRecord s n = some r) (hlen : bs.length = 2048) :
    driveRdata n sector .unreadable bs s = verifyStop n .verifyHard
      (received n sector bs (s.lane n).verify.soft (satInc max16 (s.lane n).verify.hard) s) := by
  simp only [driveRdata, h, if_true, hd, hr, fitBytes_of_length hlen, updVerify, updLane_updLane]
  rfl

end

/-- Settles O32, from what a received sector leads to, from what ends a block, and from what each decision records. -/
theorem rdataTaken : Obligations.RdataTaken := by
  unfold Obligations.RdataTaken
  refine ⟨fun n sector status bs s hup hlen => ⟨fun hstray => ?stray, fun d r hawaited hd hr => ?sector⟩,
    fun n r d s => ⟨blockRead_readability d, fun hcompare => ?compare⟩,
    fun n s hup => ⟨fun sectors => ⟨nextBlock_last, nextBlock_more hup⟩,
      fun d x hd hx => ⟨?pass, fun why hstate htray hpending hslot hstage hunit hwhy => ?stop⟩⟩⟩
  case stray =>
    rw [exec_rdata_up sector status hup hlen, driveRdata_stray status bs fun h => hstray (awaits_iff.mp h)]
  case sector =>
    have hawaits := awaits_iff.mpr hawaited
    rw [exec_rdata_up sector status hup hlen]
    refine ⟨fun hok => ?_, fun hrecovered => ?_, fun hunreadable => ?_⟩
    · rw [hok, driveRdata_ok hawaits hd hr hlen, sectorStands_received]
      rfl
    · rw [hrecovered, driveRdata_recovered hawaits hd hr hlen, sectorStands_received]
      rfl
    · rw [hunreadable, driveRdata_unreadable hawaits hd hr hlen]
      rfl
  case compare =>
    rw [blockRead_compare d hcompare]
    exact ⟨_, rfl, State.lane_setLane_self _ _ _, fun m hm => State.lane_setLane_ne _ _ _ _ hm, rfl, rfl⟩
  case pass =>
    have hpass := verifyPass_disc hd
    obtain ⟨p, ro, h, hupd⟩ := DiscRoster.updDisc_frame d.index
      (fun x => { verifyFields (s.lane n) s.now x with outcome := .passed }) s
    obtain ⟨p', l, tr, h', g, hunload⟩ := DiscRoster.requestUnload_frame n
      (updDisc d.index (fun x => { verifyFields (s.lane n) s.now x with outcome := .passed }) s)
    refine ⟨_, _, hpass, rfl, DiscRoster.updDisc_disc _ hx, fun i hi => DiscRoster.updDisc_disc_ne _ _ hi, by rw [hupd],
      by rw [hpass, hunload], by rw [hpass, hunload, hupd], by rw [hpass, hunload, hupd], ?_⟩
    rw [hpass, DiscRoster.requestUnload_lane, State.lane_of_lanes _ _ (DiscRoster.updDisc_lanes _ _ _)]
  case stop =>
    obtain ⟨v, hstop, hv⟩ := verifyStop_stopped hup hd hx hstate htray hpending hslot hstage hunit hwhy
    obtain ⟨p, l, tr, h, g, hunload⟩ := DiscRoster.requestUnload_frame n v
    have hjob : ∀ j, (requestUnload n v).job j = v.job j := State.job_of_jobs _ _ (by rw [hunload])
    have hdest : unloadDest v n = stationReject := by
      rw [DiscRoster.unloadDest_of_disc hv.held hv.record]
      rfl
    refine ⟨_, hstop, ?_, fun i hi => ?_, ?_, ?_, ?_, ?_, ?_, ?_, ?_,
      ⟨_, (DiscRoster.requestUnload_queued _ _ _).trans (if_pos rfl), rfl, rfl, hdest⟩⟩
    · rw [DiscRoster.requestUnload_disc, hv.record]
    · rw [DiscRoster.requestUnload_disc, hv.records i hi]
    · rw [hjob, hv.rejected]
    · rw [hjob, hv.inFlight]
    · rw [DiscRoster.requestUnload_lane]
    · rw [DiscRoster.requestUnload_lane, hv.held]
    · rw [DiscRoster.requestUnload_lane, hv.fifo]
    · rw [DiscRoster.requestUnload_lane, hv.wait]
    · rw [DiscRoster.requestUnload_link, hv.link]

/-! ### What a lane holds of VE given back (R120, R121) -/

theorem giveBack_queued {n : LaneNo} {s : State} (h : (s.lane n).verify.stage = .queued) :
    giveBack n s = ({ s with
      verify := { s.verify with queue := s.verify.queue.filter fun q => decide (q.lane ≠ n) } } : State).setLane n
        { s.lane n with verify := { (s.lane n).verify with stage := .off } } := by
  simp only [giveBack, h]
  rfl

theorem giveBack_noUnit {n : LaneNo} {s : State} (h : (s.lane n).verify.stage = .granted) (hunit : (s.lane n).verify.unit = none) :
    giveBack n s = s.setLane n { s.lane n with verify := { (s.lane n).verify with stage := .off } } := by
  have hcall : giveBack n s = updVerify n (fun v => { v with stage := .off }) s := by simp only [giveBack, h, hunit]
  exact hcall

theorem giveBack_comparing {n : LaneNo} {u : UnitNo} {s : State} (h : (s.lane n).verify.stage = .granted)
    (hunit : (s.lane n).verify.unit = some u) (hstate : (s.unit u).state = .comparing) :
    giveBack n s = (s.setUnit u { s.unit u with discard := true }).setLane n
      { s.lane n with verify := { (s.lane n).verify with stage := .off } } := by
  have hcall : giveBack n s =
      updVerify n (fun v => { v with stage := .off }) (s.setUnit u { s.unit u with discard := true }) := by
    simp only [giveBack, h, hunit, if_pos hstate]
  exact hcall

/-- The state with a unit FREE again and a lane changed, whose compare pin is given up with what that changes of frames and fetches. -/
def unitBack (u : UnitNo) (n : LaneNo) (l : Lane) (fr : Vector Frame 4096) (fe : Fetch) (s : State) : State :=
  { (freeUnit u s).setLane n (keepPins (fun q => decide (q.kind ≠ .compare)) l) with frames := fr, fetch := fe }

theorem giveBack_waiting {n : LaneNo} {u : UnitNo} {s : State} (h : (s.lane n).verify.stage = .granted)
    (hunit : (s.lane n).verify.unit = some u) (hstate : (s.unit u).state ≠ .comparing) :
    ∃ fr fe, giveBack n s =
      unitBack u n { s.lane n with verify := { (s.lane n).verify with stage := .off, unit := none } } fr fe s := by
  obtain ⟨fr, fe, hunpin⟩ := unpinKind_frame n .compare (updVerify n (fun v => { v with stage := .off, unit := none }) s)
  refine ⟨fr, fe, ?_⟩
  simp only [giveBack, h, hunit, if_neg hstate]
  rw [hunpin, updVerify, State.lane_updLane_self, State.updLane, DriveLink.setLane_setLane]
  rfl

/-- The end of a discarded compare: the unit, the pin and the FIFO go, then a lane that waited for it enters its rest state. -/
theorem endDiscarded_eq (u : UnitNo) (n : LaneNo) (s : State) :
    ∃ fr fe, endDiscarded u n s =
      let v := unitBack u n { s.lane n with fifo := [], verify := { (s.lane n).verify with unit := none } } fr fe s
      if (s.lane n).restPending then laneRest n v else v := by
  obtain ⟨fr, fe, hunpin⟩ := unpinKind_frame n .compare (freeUnit u s)
  refine ⟨fr, fe, ?_⟩
  simp only [endDiscarded, updLane_of_setLane hunpin]
  rfl

/-- What a unit given back leaves. -/
theorem unitBack_leaves {u : UnitNo} {n : LaneNo} {l : Lane} {s : State} (fr : Vector Frame 4096) (fe : Fetch)
    (hpins : l.pins = (s.lane n).pins) :
    let v := unitBack u n l fr fe s
    v.unit u = CompareUnit.reset ∧ (∀ w, w ≠ u → v.unit w = s.unit w) ∧ v.lane n = { l with pins := (v.lane n).pins } ∧
      (∀ p, p ∈ (v.lane n).pins ↔ p ∈ (s.lane n).pins ∧ p.kind ≠ .compare) ∧ (∀ m, m ≠ n → v.lane m = s.lane m) ∧
      v = { s with
        frames := v.frames, fetch := v.fetch, lanes := v.lanes, verify := v.verify, signals := s.signals ++ [.grant] } := by
  intro v
  have hunit : ∀ w, v.unit w = (s.setUnit u CompareUnit.reset).unit w := unit_of_verify rfl
  have hlanes : ∀ m, v.lane m = (s.setLane n (keepPins (fun q => decide (q.kind ≠ .compare)) l)).lane m :=
    State.lane_of_lanes _ _ rfl
  have hlane : v.lane n = keepPins (fun q => decide (q.kind ≠ .compare)) l := (hlanes n).trans (State.lane_setLane_self _ _ _)
  refine ⟨(hunit u).trans (State.unit_setUnit_self _ _ _), fun w hw => (hunit w).trans (State.unit_setUnit_ne _ _ _ _ hw),
    by rw [hlane]; rfl, fun p => ?_, fun m hm => (hlanes m).trans (State.lane_setLane_ne _ _ _ _ hm), rfl⟩
  rw [hlane, mem_keepPins, hpins, decide_eq_true_iff]

/-! ### The rest state (R63, R94, R121) -/

theorem holdsDiscarded_iff {n : LaneNo} {s : State} :
    holdsDiscarded s n = true ↔
      ∃ u, (s.lane n).verify.unit = some u ∧ (s.unit u).discard = true ∧ (s.unit u).owner = some n := by
  unfold holdsDiscarded
  cases (s.lane n).verify.unit <;> simp

theorem holdsDiscarded_holdNothing (n : LaneNo) (s : State) :
    holdsDiscarded (s.updLane n Lane.holdNothing) n = holdsDiscarded s n := by
  unfold holdsDiscarded
  rw [State.lane_updLane_self]
  rfl

theorem laneRest_waits {n : LaneNo} {s : State} (h : holdsDiscarded s n = true) :
    laneRest n s = s.setLane n { (s.lane n).holdNothing with restPending := true } := by
  rw [laneRest, holdsDiscarded_holdNothing, if_pos h, updLane_updLane]
  rfl

theorem laneRest_down {n : LaneNo} {s : State} (h : ¬ holdsDiscarded s n = true) (hon : (s.lane n).enabled = true)
    (hdown : (s.link n).up = false) :
    laneRest n s = faultLane n .linkDown none (s.setLane n (s.lane n).holdNothing) := by
  have hon' : ((s.updLane n Lane.holdNothing).lane n).enabled = true := by rw [State.lane_updLane_self]; exact hon
  have hdown' : ¬ ((s.updLane n Lane.holdNothing).link n).up = true := fun hup => by
    rw [show (s.updLane n Lane.holdNothing).link n = s.link n from rfl, hdown] at hup
    cases hup
  rw [laneRest, holdsDiscarded_holdNothing, if_neg h, if_pos hon', if_neg hdown', State.updLane]

theorem laneRest_up {n : LaneNo} {s : State} (h : ¬ holdsDiscarded s n = true) (hon : (s.lane n).enabled = true)
    (hup : (s.link n).up = true) :
    laneRest n s = ((enterLane n .idle (s.setLane n (s.lane n).holdNothing)).emit .dispatch).emit .sweepTest := by
  have hon' : ((s.updLane n Lane.holdNothing).lane n).enabled = true := by rw [State.lane_updLane_self]; exact hon
  have hup' : ((s.updLane n Lane.holdNothing).link n).up = true := hup
  rw [laneRest, holdsDiscarded_holdNothing, if_neg h, if_pos hon', if_pos hup', State.updLane]

theorem laneRest_disabled {n : LaneNo} {s : State} (h : ¬ holdsDiscarded s n = true) (hoff : (s.lane n).enabled = false) :
    laneRest n s = (enterLane n .offline (s.setLane n (s.lane n).holdNothing)).emit .sweepTest := by
  have hoff' : ¬ ((s.updLane n Lane.holdNothing).lane n).enabled = true := by
    rw [State.lane_updLane_self]
    exact Bool.eq_false_iff.mp hoff
  rw [laneRest, holdsDiscarded_holdNothing, if_neg h, if_neg hoff', State.updLane]

/-- A lane enters a state of rest holding nothing. -/
theorem enterRest_leaves (n : LaneNo) (st : LaneState) (s : State) :
    let v := enterLane n st (s.setLane n (s.lane n).holdNothing)
    (∀ m, m ≠ n → v.lane m = s.lane m) ∧
      v.lane n = { (s.lane n).holdNothing with
        state := st
        trail := if (s.lane n).state = st then (s.lane n).trail else lastEight ((s.lane n).trail ++ [(st, s.port.timeBase)]) } ∧
      v = { s with port := v.port, lanes := v.lanes, host := v.host, signals := v.signals } := by
  intro v
  refine ⟨fun m hm => ?_, ?_, ?_⟩
  · rw [DiscRoster.enterLane_lane_ne _ _ hm, State.lane_setLane_ne _ _ _ _ hm]
  · rw [DiscRoster.enterLane_lane, State.lane_setLane_self]
    rfl
  · obtain ⟨p, l, h, g, heq⟩ := DiscRoster.enterLane_frame n st (s.setLane n (s.lane n).holdNothing)
    simp only [v, heq]
    rfl

/-! ### A block against its reference (R115, R116) -/

theorem compareFrame_eq_some {l : Lane} {f : FrameNo} (hpin : ∃ p, p ∈ l.pins ∧ p.kind = .compare)
    (hframe : ∀ p, p ∈ l.pins → p.kind = .compare → p.frame = some f) : compareFrame l = some f := by
  unfold compareFrame
  split
  · next p hp => exact hframe p (List.mem_of_find?_eq_some hp) (by simpa using List.find?_some hp)
  · next hp =>
    obtain ⟨p, hmem, hkind⟩ := hpin
    simpa [hkind] using List.find?_eq_none.mp hp p hmem

theorem fifoBytes_eq {l : Lane} {sector : Nat} {bs : List Byte} (h : ⟨sector, bs⟩ ∈ l.fifo)
    (hone : ∀ x y, x ∈ l.fifo → y ∈ l.fifo → x.sector = y.sector → x = y) : fifoBytes l sector = bs := by
  unfold fifoBytes
  split
  · next x hx =>
    have hsector : x.sector = sector := by simpa using List.find?_some hx
    rw [hone x ⟨sector, bs⟩ (List.mem_of_find?_eq_some hx) h hsector]
  · next hnone => simpa using List.find?_eq_none.mp hnone ⟨sector, bs⟩ h

theorem blockEqual_iff {u : CompareUnit} {n : LaneNo} {f : FrameNo} {s : State} (h : compareFrame (s.lane n) = some f) :
    blockEqual s u n = true ↔ ∀ k, k < u.blockCount →
      fifoBytes (s.lane n) (u.blockStart + k) = reference s u f (u.blockStart + k) := by
  simp only [blockEqual, h, List.all_eq_true, List.mem_range, decide_eq_true_iff]

/-! ### The choice of a grant (R112, R113) -/

/-- A request comes before another in the compare queue, or is the same. -/
def notLater (a b : CompareReq) : Bool := decide (a.arrival < b.arrival ∨ (a.arrival = b.arrival ∧ a.lane ≤ b.lane))

theorem notLater_iff {a b : CompareReq} :
    notLater a b = true ↔ a.arrival < b.arrival ∨ (a.arrival = b.arrival ∧ a.lane.val ≤ b.lane.val) := decide_eq_true_iff

theorem earliestReq_eq_leastBy (l : List CompareReq) : earliestReq l = ImageCache.leastBy notLater l := by
  induction l with
  | nil => rfl
  | cons r rest ih =>
    rw [earliestReq, ImageCache.leastBy, ih]
    cases ImageCache.leastBy notLater rest <;> simp only [notLater_iff, Fin.le_def]

theorem earliestReq_eq_some {l : List CompareReq} {r : CompareReq} (hr : r ∈ l)
    (h : ∀ q, q ∈ l → q ≠ r → r.arrival < q.arrival ∨ (r.arrival = q.arrival ∧ r.lane < q.lane)) : earliestReq l = some r := by
  rw [earliestReq_eq_leastBy]
  cases hleast : ImageCache.leastBy notLater l with
  | none =>
    rw [ImageCache.leastBy_eq_none.mp hleast] at hr
    exact absurd hr List.not_mem_nil
  | some m =>
    obtain ⟨hm, hfirst⟩ := ImageCache.leastBy_eq_some
      (fun a b => by simp only [notLater_iff]; omega) (fun a b c => by simp only [notLater_iff]; omega) hleast
    by_cases heq : m = r
    · rw [heq]
    · have hbefore : r.arrival < m.arrival ∨ (r.arrival = m.arrival ∧ r.lane.val < m.lane.val) := h m hm heq
      have hnot := notLater_iff.mp (hfirst r hr)
      omega

theorem freeUnitNo_eq_some {u : UnitNo} {s : State} (hfree : (s.unit u).state = .free)
    (hbefore : ∀ w, w < u → (s.unit w).state ≠ .free) : freeUnitNo s = some u :=
  ImageCache.firstIndex_eq_some.mpr ⟨decide_eq_true hfree, fun w hw => decide_eq_false (hbefore w hw)⟩

theorem freeUnitNo_eq_none {s : State} (h : ∀ u, (s.unit u).state ≠ .free) : freeUnitNo s = none :=
  ImageCache.firstIndex_eq_none.mpr fun u => decide_eq_false (h u)

theorem grantUnit_none {s : State} (h : (∀ u, (s.unit u).state ≠ .free) ∨ s.verify.queue = []) : grantUnit s = s := by
  unfold grantUnit
  split
  · next u r hu hr =>
    rcases h with hbusy | hempty
    · rw [freeUnitNo_eq_none hbusy] at hu
      cases hu
    · rw [hempty] at hr
      cases hr
  · rfl

theorem takeUnit_lane (r : CompareReq) (u : UnitNo) (s : State) :
    (takeUnit r u s).lane r.lane =
      { s.lane r.lane with verify := { (s.lane r.lane).verify with stage := .granted, unit := some u } } :=
  State.lane_updLane_self _ _ _

/-- What the granting of a unit leaves. -/
theorem takeUnit_leaves (r : CompareReq) (u : UnitNo) (s : State) :
    let t := takeUnit r u s
    t = { s with lanes := t.lanes, verify := t.verify } ∧ (∀ w, w ≠ u → t.unit w = s.unit w) ∧
      t.verify.queue = s.verify.queue.filter (fun q => decide (q ≠ r)) ∧ t.unit u = CompareUnit.granted r ∧
      ∀ m, m ≠ r.lane → t.lane m = s.lane m :=
  ⟨rfl, fun w hw => State.unit_setUnit_ne s u w _ hw, rfl, State.unit_setUnit_self s u _,
    fun _ hm => State.lane_updLane_ne _ _ _ _ hm⟩

theorem takeUnit_stageOff (r : CompareReq) (u : UnitNo) (s : State) :
    updVerify r.lane (fun v => { v with stage := .off, unit := none }) (takeUnit r u s) =
      (takeUnit r u s).setLane r.lane
        { s.lane r.lane with verify := { (s.lane r.lane).verify with stage := .off, unit := none } } := by
  rw [updVerify, State.updLane, takeUnit_lane]

theorem pinFinds_takeUnit (r : CompareReq) (u : UnitNo) (s : State) (j : SlotNo) (page : Nat) :
    pinFinds (takeUnit r u s) j page = pinFinds s j page := rfl

theorem grantUnit_diagnosis {u : UnitNo} {r : CompareReq} {s : State} (hu : freeUnitNo s = some u)
    (hr : earliestReq s.verify.queue = some r) (h : r.kind = .diagnosis) :
    grantUnit s = takeUnit r u s := by
  simp only [grantUnit, hu, hr, h]

theorem grantUnit_disc {u : UnitNo} {r : CompareReq} {s : State} (hu : freeUnitNo s = some u)
    (hr : earliestReq s.verify.queue = some r) (h : r.kind = .disc) : grantUnit s = pinReference r u (takeUnit r u s) := by
  simp only [grantUnit, hu, hr, h]

section
variable {u : UnitNo} {r : CompareReq} {s : State}

/-- The reference page is RESIDENT: the unit compares at once. -/
theorem pinReference_ready (h : pinFinds s r.slot (pageOf r.blockStart) = .ready) :
    pinReference r u s =
      (pinPage r.lane .compare r.slot (pageOf r.blockStart) s).setUnit u { s.unit u with state := .comparing } := by
  simp only [pinReference, h]

/-- The reference page is waited for. -/
theorem pinReference_waits (h : pinFinds s r.slot (pageOf r.blockStart) = .waits) :
    pinReference r u s = pinPage r.lane .compare r.slot (pageOf r.blockStart) s := by
  simp only [pinReference, h]

/-- The reference page is FAILED: the unit goes FREE, verification stops, and the job has a hold cause. -/
theorem pinReference_failed (h : pinFinds s r.slot (pageOf r.blockStart) = .failed) :
    pinReference r u s = holdJobFor r.slot .imageFetch (verifyStop r.lane .verifyReference
      (freeUnit u (updVerify r.lane (fun v => { v with stage := .off, unit := none }) s))) := by
  simp only [pinReference, h]

end

/-! ### The end of a compare (R116, R117, R120) -/

theorem exec_compareDone (u : UnitNo) (s : State) : exec (.compareDone u) s = .next (settle (compareEnds u s)) := rfl

theorem exec_diagCompareDone (u : UnitNo) (faulty : List Nat) (s : State) :
    exec (.diagCompareDone u faulty) s = .next (settle (diagCompareEnds u faulty s)) := rfl

/-- A unit that does not compare for a disc takes no COMPARE_DONE. -/
theorem compareEnds_other {u : UnitNo} {s : State}
    (h : ((s.unit u).state ≠ .comparing ∨ (s.unit u).owner = none) ∨ (s.unit u).kind = .diagnosis) : compareEnds u s = s := by
  unfold compareEnds
  split
  · next n hstate hkind howner => simp [hstate, hkind, howner] at h
  · rfl

/-- A unit that does not compare for a diagnosis takes no DIAG_COMPARE_DONE. -/
theorem diagCompareEnds_other {u : UnitNo} {s : State} (faulty : List Nat)
    (h : ((s.unit u).state ≠ .comparing ∨ (s.unit u).owner = none) ∨ (s.unit u).kind = .disc) : diagCompareEnds u faulty s = s := by
  unfold diagCompareEnds
  split
  · next n hstate hkind howner => simp [hstate, hkind, howner] at h
  · rfl

theorem mem_diagDiffs {u : CompareUnit} {faulty : List Nat} {x : Nat} :
    x ∈ diagDiffs u faulty ↔ x ∈ faulty ∧ u.blockStart ≤ x ∧ x < u.blockStart + u.blockCount := by
  have hblock : (∃ k, k < u.blockCount ∧ u.blockStart + k = x) ↔ u.blockStart ≤ x ∧ x < u.blockStart + u.blockCount :=
    ⟨by rintro ⟨k, hk, rfl⟩; omega, fun ⟨hfirst, hlast⟩ => ⟨x - u.blockStart, by omega, by omega⟩⟩
  rw [diagDiffs, List.mem_filter, List.mem_map, List.contains_iff_mem, and_comm]
  simp only [List.mem_range, hblock]

section
variable {u : UnitNo} {n : LaneNo} {s : State}

theorem compareEnds_discarded (hstate : (s.unit u).state = .comparing) (hkind : (s.unit u).kind = .disc)
    (howner : (s.unit u).owner = some n) (hdiscard : (s.unit u).discard = true) :
    compareEnds u s = endDiscarded u n s := by
  simp only [compareEnds, hstate, hkind, howner, hdiscard, if_true]

/-- A block compared for a disc: passed on where it equals its reference, else a miscompare that stops verification. -/
theorem compareEnds_disc (hstate : (s.unit u).state = .comparing) (hkind : (s.unit u).kind = .disc)
    (howner : (s.unit u).owner = some n) (hkept : (s.unit u).discard = false) :
    let s1 := updVerify n (fun v => { v with stage := .off, unit := none }) (unpinKind n .compare (freeUnit u s))
    compareEnds u s = if blockEqual s (s.unit u) n then
        nextBlock n (imageSectors s (s.unit u).slot) (s1.updLane n fun l => { l with fifo := [] })
      else verifyStop n .verifyMiscompare (updVerify n (fun v => { v with miscompare := satInc max16 v.miscompare }) s1) := by
  simp only [compareEnds, hstate, hkind, howner, hkept, Bool.false_eq_true, if_false]

theorem diagCompareEnds_diagnosis (faulty : List Nat) (hstate : (s.unit u).state = .comparing)
    (hkind : (s.unit u).kind = .diagnosis) (howner : (s.unit u).owner = some n) :
    diagCompareEnds u faulty s = diagBlockDone n (diagDiffs (s.unit u) faulty).length (diagDiffs (s.unit u) faulty).head?
      (updVerify n (fun v => { v with stage := .off, unit := none }) (freeUnit u s)) := by
  simp only [diagCompareEnds, hstate, hkind, howner]

end

/-- Settles O40, from what a lane gives back of VE, the rest state, the block's reference, the choice of a grant, and what the end of a
compare leads to. -/
theorem comparesTaken : Obligations.ComparesTaken := by
  unfold Obligations.ComparesTaken
  refine ⟨fun n s => ⟨giveBack_off, giveBack_queued, giveBack_noUnit, fun u hunit =>
      ⟨fun hstage => giveBack_comparing hstage hunit, fun hstage hstate => ?waiting, ?discarded⟩⟩,
    fun n s => ⟨fun hwaits => laneRest_waits (holdsDiscarded_iff.mpr hwaits), fun hrests => ?rest⟩,
    fun u n f slot s hpin hframe hfifo hone => ?reference, fun s => grantUnit_none, fun u r s hfree hbefore hr hfirst => ?grant,
    fun u faulty s => ?ends⟩
  case waiting =>
    obtain ⟨fr, fe, hback⟩ := giveBack_waiting hstage hunit hstate
    exact ⟨_, hback, unitBack_leaves fr fe rfl⟩
  case discarded =>
    obtain ⟨fr, fe, hend⟩ := endDiscarded_eq u n s
    exact ⟨unitBack u n { s.lane n with fifo := [], verify := { (s.lane n).verify with unit := none } } fr fe s, hend,
      unitBack_leaves fr fe rfl⟩
  case rest =>
    have hrests' : ¬ holdsDiscarded s n = true := fun h => hrests (holdsDiscarded_iff.mp h)
    refine ⟨laneRest_down hrests', ?_⟩
    by_cases hon : (s.lane n).enabled = true
    · have hnever : (s.lane n).enabled ≠ false := by rw [hon]; decide
      by_cases hup : (s.link n).up = true
      · obtain ⟨hothers, hlane, hframe⟩ := enterRest_leaves n .idle s
        refine ⟨((enterLane n .idle (s.setLane n (s.lane n).holdNothing)).emit .dispatch).emit .sweepTest, ?_,
          congrArg (fun t : State => (t.emit .dispatch).emit .sweepTest) hframe,
          fun _ _ => ⟨laneRest_up hrests' hon hup, ?_, by simp, by simp⟩, fun hoff => absurd hoff hnever⟩
        · simp only [lane_emit]
          exact hothers
        · rw [lane_emit, lane_emit]
          exact hlane
      · exact ⟨s, fun _ _ => rfl, rfl, fun _ h => absurd h hup, fun hoff => absurd hoff hnever⟩
    · have hoff : (s.lane n).enabled = false := Bool.eq_false_iff.mpr hon
      obtain ⟨hothers, hlane, hframe⟩ := enterRest_leaves n .offline s
      refine ⟨(enterLane n .offline (s.setLane n (s.lane n).holdNothing)).emit .sweepTest, ?_,
        congrArg (State.emit .sweepTest) hframe, fun h => absurd h hon, fun _ => ⟨laneRest_disabled hrests' hoff, ?_, by simp⟩⟩
      · simp only [lane_emit]
        exact hothers
      · rw [lane_emit]
        exact hlane
  case reference =>
    rw [blockEqual_iff (compareFrame_eq_some hpin hframe)]
    refine forall_congr' fun k => forall_congr' fun hk => ?_
    rw [fifoBytes_eq (hfifo k hk) hone]
    rfl
  case grant =>
    have hu : freeUnitNo s = some u := freeUnitNo_eq_some hfree hbefore
    have hearliest : earliestReq s.verify.queue = some r := earliestReq_eq_some hr hfirst
    obtain ⟨hframe, hunits, hqueue, hunit, hlanes⟩ := takeUnit_leaves r u s
    refine ⟨takeUnit r u s, hframe, hunits, hqueue, hunit, takeUnit_lane r u s, hlanes, grantUnit_diagnosis hu hearliest,
      fun hdisc => ?_⟩
    have hgrant := grantUnit_disc hu hearliest hdisc
    have hfinds := pinFinds_takeUnit r u s r.slot (pageOf r.blockStart)
    refine ⟨fun hready => hgrant.trans (pinReference_ready (hfinds.trans hready)),
      fun hwaits => hgrant.trans (pinReference_waits (hfinds.trans hwaits)),
      fun hfailed => (hgrant.trans (pinReference_failed (hfinds.trans hfailed))).trans ?_⟩
    rw [takeUnit_stageOff]
  case ends =>
    simp only [exec_compareDone, exec_diagCompareDone]
    refine ⟨fun h => ⟨by rw [compareEnds_other (.inl h)], by rw [diagCompareEnds_other _ (.inl h)]⟩,
      fun hkind => by rw [compareEnds_other (.inr hkind)], fun hkind => by rw [diagCompareEnds_other _ (.inr hkind)],
      fun n hstate howner => ⟨fun hkind hdiscard => ?_, fun hkind hkept => ?_, fun hkind => ?_⟩⟩
    · rw [compareEnds_discarded hstate hkind howner hdiscard]
    · rw [compareEnds_disc hstate hkind howner hkept]
      exact ⟨fun hequal => by rw [if_pos hequal], fun hdiffers => by rw [if_neg (Bool.eq_false_iff.mp hdiffers)]⟩
    · exact ⟨by rw [diagCompareEnds_diagnosis faulty hstate hkind howner], fun _ => mem_diagDiffs⟩

end Sys2Proof.Verification
end

section
/-! The statement on the strobe computation: what each stage answers (R167 to R173), the outcome that ends the computation at each of its
checks, and the bounds that an ordered profile gives. -/

namespace Sys2Proof.Strobe

open Sys2Proof.Machine

/-! ### The order of checks -/

theorem sensorFault_iff (code : Nat) : sensorFault code = true ↔ code = 0 ∨ code = 1023 := by
  simp [sensorFault]

/-- R167 names the two codes of a sensor fault; the sample holds them as words of 10 bits. -/
theorem sensorFault_thermistor (c : BitVec 10) : sensorFault c.toNat = true ↔ c = 0 ∨ c = 1023 := by
  rw [sensorFault_iff, BitVec.toNat_eq, BitVec.toNat_eq]
  rfl

section
variable {p : Profile} {sample : Sample}

theorem strobe_sensor (hfault : sensorFault sample.thermistor.toNat = true) : strobe p sample = .sensor :=
  if_pos hfault

theorem strobe_hot (hsound : ¬ sensorFault sample.thermistor.toNat = true)
    (hhot : p.tmax ≤ temperature p sample.thermistor.toNat) :
    strobe p sample = .hot (temperature p sample.thermistor.toNat) :=
  (if_neg hsound).trans (if_pos hhot)

theorem strobe_lowSupply (hsound : ¬ sensorFault sample.thermistor.toNat = true)
    (hcool : temperature p sample.thermistor.toNat < p.tmax) (hlow : supplyVolts sample.supply.toNat < p.vmin) :
    strobe p sample = .lowSupply (supplyVolts sample.supply.toNat) :=
  (if_neg hsound).trans ((if_neg (Int.not_le.mpr hcool)).trans (if_pos hlow))

/-- The pulse of a line that passes the three checks (R169 to R171). -/
def fullPulse (p : Profile) (sample : Sample) : Nat :=
  clampPulse p (pulseBySupply p (pulseByTemperature p (temperature p sample.thermistor.toNat)) (supplyVolts sample.supply.toNat))

theorem strobe_pulse (hsound : ¬ sensorFault sample.thermistor.toNat = true)
    (hcool : temperature p sample.thermistor.toNat < p.tmax) (hfed : p.vmin ≤ supplyVolts sample.supply.toNat) :
    strobe p sample = .pulse (fullPulse p sample) (phaseMark (fullPulse p sample) p.h1) (phaseMark (fullPulse p sample) p.h2)
      (linePeriod p (fullPulse p sample)) (decide (p.period < fullPulse p sample + 20)) :=
  (if_neg hsound).trans ((if_neg (Int.not_le.mpr hcool)).trans (if_neg (Nat.not_lt.mpr hfed)))

end

/-! ### The bounds -/

/-- R171: the clamp answers a pulse of the profile's range. -/
theorem clampPulse_bounds {p : Profile} (horder : p.pmin ≤ p.pmax) (pv : Nat) :
    p.pmin ≤ clampPulse p pv ∧ clampPulse p pv ≤ p.pmax := by
  unfold clampPulse
  split
  · exact ⟨Nat.le_refl _, horder⟩
  next hlow =>
    split
    · exact ⟨horder, Nat.le_refl _⟩
    next hhigh => exact ⟨Nat.le_of_not_lt hlow, Nat.le_of_not_lt hhigh⟩

/-- A larger fraction of the same pulse has no earlier mark (R172). -/
theorem phaseMark_mono (pulse : Nat) {h h' : Nat} (hle : h ≤ h') : phaseMark pulse h ≤ phaseMark pulse h' :=
  Nat.div_le_div_right (Nat.add_le_add_right (Nat.mul_le_mul_left pulse hle) 128)

/-- The mark of the whole pulse, 256 of 256 parts, is its end. -/
theorem phaseMark_whole (pulse : Nat) : phaseMark pulse 256 = pulse := by
  unfold phaseMark
  omega

theorem phaseMark_le_pulse (pulse : Nat) {h : Nat} (hle : h ≤ 256) : phaseMark pulse h ≤ pulse :=
  Nat.le_trans (phaseMark_mono pulse hle) (Nat.le_of_eq (phaseMark_whole pulse))

/-! ### The statement -/

/-- Settles O53, check by check: the statement writes out the stages of `temperature`, `supplyVolts` and `fullPulse`. -/
theorem strobeBounds : Obligations.StrobeBounds := by
  intro p sample
  refine ⟨fun hcode => strobe_sensor ((sensorFault_thermistor _).mpr hcode), fun hzero htop => ?_⟩
  have hsound : ¬ sensorFault sample.thermistor.toNat = true := fun hfault =>
    ((sensorFault_thermistor _).mp hfault).elim hzero htop
  refine ⟨fun hhot => strobe_hot hsound hhot, fun hcool => ⟨fun hlow => strobe_lowSupply hsound hcool hlow, fun hfed => ?_⟩⟩
  exact ⟨strobe_pulse hsound hcool hfed, fun horder => clampPulse_bounds horder _, fun hwhole => phaseMark_le_pulse _ hwhole,
    fun hmarks => phaseMark_mono _ hmarks⟩

end Sys2Proof.Strobe
end
